-- ==== Sys2Proof/Word.lean ====
section
/-! DEFINITION. Words and names: the byte, the fixed sets of names of the part (hoses, compartments,
ports, readers, meter lines) and one container for each fixed number of like things. -/

namespace Sys2Proof

/-- A byte as the serial links and the reader lines carry it (11.5). -/
abbrev Byte := BitVec 8

/-- The three hoses (00, Names): H1 and H2 draw from compartment A, H3 from compartment B. -/
inductive Hose where
  | h1 | h2 | h3
  deriving DecidableEq, Repr

/-- The two compartments (00, Names). A holds diesel (product 1), B exhaust-treatment fluid
(product 2), so a compartment also names its product. -/
inductive Comp where
  | a | b
  deriving DecidableEq, Repr

/-- The three ports (00, Names). -/
inductive Port where
  | panel | office | depot
  deriving DecidableEq, Repr

/-- The four tag readers: NR1 to NR3, one at each nozzle, and PR at the panel (00, Names). -/
inductive Reader where
  | nr (h : Hose)
  | pr
  deriving DecidableEq, Repr

/-- The two pulse lines of a meter head (1.3). -/
inductive MeterLine where
  | p1 | p2
  deriving DecidableEq, Repr

/-- One value for each hose. -/
structure PerHose (α : Type) where
  h1 : α
  h2 : α
  h3 : α
  deriving DecidableEq, Repr

/-- One value for each compartment, or for the product the compartment holds. -/
structure PerComp (α : Type) where
  a : α
  b : α
  deriving DecidableEq, Repr

/-- One value for each port. -/
structure PerPort (α : Type) where
  panel : α
  office : α
  depot : α
  deriving DecidableEq, Repr

variable {α : Type}

def PerHose.get (x : PerHose α) : Hose → α
  | .h1 => x.h1
  | .h2 => x.h2
  | .h3 => x.h3

def PerHose.set (x : PerHose α) (h : Hose) (v : α) : PerHose α :=
  match h with
  | .h1 => { x with h1 := v }
  | .h2 => { x with h2 := v }
  | .h3 => { x with h3 := v }

/-- The same value for every hose. -/
def PerHose.all (v : α) : PerHose α := ⟨v, v, v⟩

def PerComp.get (x : PerComp α) : Comp → α
  | .a => x.a
  | .b => x.b

def PerComp.set (x : PerComp α) (c : Comp) (v : α) : PerComp α :=
  match c with
  | .a => { x with a := v }
  | .b => { x with b := v }

/-- The same value for both compartments. -/
def PerComp.all (v : α) : PerComp α := ⟨v, v⟩

def PerPort.get (x : PerPort α) : Port → α
  | .panel => x.panel
  | .office => x.office
  | .depot => x.depot

def PerPort.set (x : PerPort α) (p : Port) (v : α) : PerPort α :=
  match p with
  | .panel => { x with panel := v }
  | .office => { x with office := v }
  | .depot => { x with depot := v }

/-- The same value for every port. -/
def PerPort.all (v : α) : PerPort α := ⟨v, v, v⟩

end Sys2Proof
end

