-- ==== Sys2Proof/Config.lean ====
section
/-! DEFINITION. The two values the manual leaves open. Each is a constant with no body: nothing can
be proved of its value, and a statement about it holds whatever it is. -/

namespace Sys2Proof.Config

/-- The content of an `n`-byte field of a response whose value `v` does not fit the field's width.
The layouts of 11.5 do not say what such a field carries (a book stock of +2^39 in five signed bytes,
a restock suggestion past 32 bits). DESIGN CHOICE: left free (log 11). -/
opaque unrepresented (n : Nat) (v : Int) : BitVec (8 * n)

/-- The age of a last valid gauge whose time lies after the Site Clock's counter, as after a
SET_CLOCK that sets the clock back. R127 gives the age as counter less time and states no value here.
DESIGN CHOICE: left free (log 12). -/
opaque ageOfLaterReading (counter time : Nat) : BitVec 32

end Sys2Proof.Config
end

