-- ==== Sys2Proof/Syntax.lean ====
section
/-! DEFINITION. The commands of the block: one constructor per row of spec/opcode_table.json. A port
command carries the port it arrives on and the fields of its payload as the wire has them (R202); a
field event carries what its line delivers. -/

namespace Sys2Proof

/-- A roster entry as LOAD_ROSTER carries it: 23 bytes (11.5, R201). -/
structure WireEntry where
  machine : BitVec 24
  account : Byte
  permissions : Byte
  perFill : BitVec 24
  daily : BitVec 32
  usedElsewhere : BitVec 32
  flags : Byte
  lastHours : BitVec 24
  maxJump : BitVec 24
  deriving DecidableEq, Repr

/-- A strapping point as CAL_STRAP_LOAD carries it: level and gross volume (R202). -/
structure WirePoint where
  level : BitVec 16
  gross : BitVec 32
  deriving DecidableEq, Repr

/-- A tag's base page as received: byte 0 (class, inlet product, next-page count) and the number of
bytes 1 to 3 (11.5). -/
structure BasePage where
  head : Byte
  number : BitVec 24
  deriving DecidableEq, Repr

/-- A tag's next page as received: kind and value (11.5). -/
structure NextPage where
  kind : Byte
  value : BitVec 32
  deriving DecidableEq, Repr

/-- What one poll brings back from a reader line (3.2): pages come with their check byte (R201). A
`collision` is also two base pages with different numbers within one poll (R57). -/
inductive PollAnswer where
  | noAnswer
  | basePage (page : BasePage) (check : Byte)
  | nextPage (page : NextPage) (check : Byte)
  | collision
  | fault
  deriving DecidableEq, Repr

/-- The levels of the switch inputs of 11.6. -/
structure Switches where
  /-- The boot switch reports the nozzle in its boot (R39). -/
  nozzleIn : PerHose Bool
  /-- The emergency-stop input is asserted (R40). -/
  estop : Bool
  /-- The park brake is released (R41). -/
  brakeReleased : Bool
  /-- The compartment's overfill input is asserted (R144). -/
  overfill : PerComp Bool
  /-- The CAL_ENABLE input is asserted (R175). -/
  calEnable : Bool
  deriving DecidableEq, Repr

/-- The levels of a hose's two meter lines. -/
structure LineLevels where
  p1 : Bool
  p2 : Bool
  deriving DecidableEq, Repr

/-- The commands, in the order of spec/opcode_table.json. -/
inductive Instr where
  -- the link (R194 to R196): whole transfers
  | voidTransfer (port : Port) (bytes : List Byte)
  | writeDiscarded (port : Port) (frame : List Byte)
  | readTransfer (port : Port) (clocked : Nat)
  | unknownCommand (port : Port) (frame : List Byte)
  -- Panel commands
  | identify (port : Port) (hose mode : Byte) (number : BitVec 24)
  | setPreset (port : Port) (hose code : Byte) (litres : BitVec 16)
  | enterHours (port : Port) (hose : Byte) (hours : BitVec 24)
  | hold (port : Port) (hose : Byte)
  | resume (port : Port) (hose : Byte)
  | stop (port : Port) (hose : Byte)
  | ackException (port : Port) (hose : Byte)
  | readHose (port : Port) (hose : Byte)
  | logoff (port : Port)
  | restart (port : Port)
  -- Office commands
  | loadRoster (port : Port) (count : Byte) (entries : List WireEntry)
  | notOnRoster (port : Port) (machine : BitVec 24)
  | dropRoster (port : Port) (machine : BitVec 24)
  | setQuickCode (port : Port) (code : Byte) (machine : BitVec 24)
  | setPrice (port : Port) (product : Byte) (price : BitVec 24)
  | setAccount (port : Port) (index : Byte) (code cap : BitVec 32)
  | readAccounts (port : Port) (index : Byte)
  | resetPeriod (port : Port) (index : Byte)
  | readNext (port : Port)
  | readFrom (port : Port) (seq : BitVec 32)
  | collected (port : Port) (seq : BitVec 32)
  | adjustStock (port : Port) (comp : Byte) (delta : BitVec 32) (reason : Byte)
  | setClock (port : Port) (time : BitVec 32)
  | setSite (port : Port) (hour : Byte) (cap : BitVec 24) (account required : Byte)
  -- Depot commands
  | openReceipt (port : Port) (comp : Byte) (docket declared : BitVec 32)
  | closeReceipt (port : Port) (comp : Byte)
  | abortReceipt (port : Port) (comp : Byte)
  | readReceipt (port : Port) (comp : Byte)
  | readGauge (port : Port) (comp : Byte)
  | setDepot (port : Port) (reorderA reorderB : BitVec 32) (basisA basisB : Byte) (slowBand : BitVec 16) (closeAhead runOn : Byte)
  | calSetKq (port : Port) (hose : Byte) (kq : BitVec 16)
  | calSetAlpha (port : Port) (product : Byte) (alpha : BitVec 16)
  | calSetDeadStock (port : Port) (comp : Byte) (dead : BitVec 32)
  | calSetHighHigh (port : Port) (comp : Byte) (level : BitVec 16)
  | calSetTilt (port : Port) (limit : BitVec 16)
  | calSetTolerance (port : Port) (absolute ppm : BitVec 32)
  | calStrapCommit (port : Port) (comp : Byte)
  | calStrapLoad (port : Port) (comp start count : Byte) (points : List WirePoint)
  | readCal (port : Port) (selector comp index : Byte)
  -- commands of all three ports
  | readStatus (port : Port)
  | readStock (port : Port)
  | readEvents (port : Port)
  | setEventMask (port : Port) (mask : BitVec 16)
  -- meter and product probe; `time` is the taking of the edge in milliseconds since power-on
  | pulseEdge (hose : Hose) (line : MeterLine) (high : Bool) (time : Nat)
  | temperatureSample (hose : Hose) (valid : Bool) (temp : Int)
  | sampleAbsenceExpiry (hose : Hose)
  | holdTimerExpiry (hose : Hose)
  -- nozzle, emergency stop, park brake and the hose timers
  | nozzleLift (hose : Hose)
  | nozzleReturn (hose : Hose)
  | estopAssert
  | estopRelease
  | parkBrakeRelease
  | parkBrakeSet
  | flowStopExpiry (hose : Hose)
  | noFlowExpiry (hose : Hose)
  | pauseTimerExpiry (hose : Hose)
  | settleTimerExpiry (hose : Hose)
  | runOnExpiry (comp : Comp)
  -- tag readers
  | fieldUnsettled (reader : Reader)
  | stableFieldExpiry (reader : Reader)
  | qualifyLimitExpiry (reader : Reader)
  | frontEndFault (reader : Reader)
  | fieldLost (reader : Reader)
  | retryTimerExpiry
  | pollTimerExpiry (reader : Reader)
  | pollResult (reader : Reader) (answer : PollAnswer)
  | trackingMissInterval (hose : Hose)
  | tagRestoreExpiry (hose : Hose)
  | logoffTimerExpiry
  | supervisorWindowExpiry
  -- slot and roster timers, the Site Clock
  | identificationTimerExpiry (hose : Hose)
  | overrideWindowExpiry (hose : Hose)
  | rosterWaitExpiry (machine : BitVec 24)
  | clockTick
  -- gauges, variance monitor, receipts
  | probeFrame (comp : Comp) (level : Nat) (temp : Int) (ok : Bool)
  | frameAbsenceExpiry (comp : Comp)
  | inclinometerReading (pitch roll : BitVec 16)
  | readingAbsenceExpiry
  | validQualificationExpiry (comp : Comp)
  | spacingTimerExpiry (comp : Comp)
  | openingQualificationExpiry (comp : Comp)
  | openingLimitExpiry (comp : Comp)
  | settlingQualificationExpiry (comp : Comp)
  | settlingLimitExpiry (comp : Comp)
  | overfillAssert (comp : Comp)
  | overfillRelease (comp : Comp)
  -- calibration switch and supply
  | calEnableAssert
  | calEnableRelease
  | entryToSaved
  | rideThrough
  | powerOn (lines : PerHose LineLevels) (switches : Switches)
  deriving DecidableEq, Repr

end Sys2Proof
end

