-- ==== Sys2Proof/Machine/Blocks.lean ====
section
/-! DEFINITION. The state each block of the part holds, as plain data. All quantities are integers in the
fixed units of 00 (cL, 0.1 °C, 0.1 mm, seconds). -/

namespace Sys2Proof.Machine

open Sys2Proof

/-- A named timer (00, Time): absent while it is not running, else the millisecond of the state's `now` at
which its value will have elapsed (log 2). -/
abbrev Timer := Option Nat

/-! ### Meter Channel (1.1) -/

/-- The temperature state of a channel (1.5). -/
inductive TempState where
  | valid | holding | substituted
  deriving DecidableEq, Repr

/-- A valid probe reading after clamping, with the mark saying whether it was clamped (R9). -/
structure TempReading where
  temp : Int
  clamped : Bool
  deriving DecidableEq, Repr

/-- The transaction context of a channel (1.1). -/
structure TxnContext where
  /-- Kq latched at binding (R1). -/
  kq : Nat
  remainder : Nat
  gross : Nat
  w : Int
  net : Nat
  amount : Nat
  deriving DecidableEq, Repr

/-- The unattributed context of a channel while it is open (R19). -/
structure UnattributedContext where
  alpha : Nat
  remainder : Nat
  gross : Nat
  w : Int
  net : Nat
  deriving DecidableEq, Repr

/-- A Meter Channel (1.1). -/
structure Channel where
  p1 : Bool
  p2 : Bool
  lastChanged : Option MeterLine
  debt : Nat
  /-- REVERSE_EXCESS has been reported and the debt has not left the cap since (R6). -/
  excessReported : Bool
  phaseErrors : Nat
  bound : Bool
  txn : TxnContext
  /-- The bound transaction's first diverted pulse has been taken (R8). -/
  ceilingReported : Bool
  unattributed : Option UnattributedContext
  tempState : TempState
  lastTemp : Option TempReading
  absenceTimer : Timer
  holdTimer : Timer
  grossTotalizer : Nat
  netTotalizer : Nat
  unmetered : Nat
  deriving DecidableEq, Repr

/-! ### Hose Control Unit (2.1) -/

/-- The four metering exceptions (2.6). -/
inductive MeterException where
  | pulsePhase | reverseExcess | overrun | leak
  deriving DecidableEq, Repr

/-- The first metering exception of its kind of record and the count of later ones (R44). -/
structure ExceptionRecord where
  code : MeterException
  further : Nat
  deriving DecidableEq, Repr

/-- The unattributed accumulator (R47). -/
structure Accumulator where
  gross : Nat
  net : Nat
  windowStart : Option Nat
  windowEnd : Option Nat
  deriving DecidableEq, Repr

/-- The Hose Control Unit's state for one hose (2.1). -/
structure HoseControl where
  slowBand : Nat
  closeAhead : Nat
  flowWindow : List Nat
  flowStop : Timer
  noFlow : Timer
  pause : Timer
  settle : Timer
  overrunReported : Bool
  transactionException : Option ExceptionRecord
  pendingException : Option ExceptionRecord
  leakWindow : List Nat
  leakArmed : Bool
  accumulator : Accumulator
  liftArmed : Bool
  deriving DecidableEq, Repr

/-- Pump demand and run-on of one compartment (R42). -/
structure PumpControl where
  demand : Nat
  runOn : Timer
  deriving DecidableEq, Repr

/-! ### Identification Unit (3.1) -/

/-- The link state of a tag reader (3.1). -/
inductive LinkState where
  | off | qualifying | listening | tagPresent | fault
  deriving DecidableEq, Repr

/-- The class of a tag (3.3). -/
inductive TagClass where
  | machine | operator | supervisor
  deriving DecidableEq, Repr

/-- A tag held in TAG_PRESENT (R54). -/
structure HeldTag where
  tagClass : TagClass
  number : Nat
  deriving DecidableEq, Repr

/-- The kinds of last tag event (R70). -/
inductive TagEventKind where
  | readerFault | tagConflict | tagNotUsed | operatorOn | operatorOff | supervisorOpen | supervisorClosed
  deriving DecidableEq, Repr

/-- A reader's last tag event: kind, number where there is one, Site Clock time (R70). -/
structure TagEvent where
  kind : TagEventKind
  number : Option Nat
  time : Nat
  deriving DecidableEq, Repr

/-- A tag reader (3.1). The retry timer is PR's alone. -/
structure ReaderState where
  link : LinkState
  stableTimer : Timer
  qualifyLimit : Timer
  retryTimer : Timer
  pollTimer : Timer
  held : Option HeldTag
  misses : Nat
  fetchLeft : Nat
  fetchUnanswered : Nat
  lastBase : Option BasePage
  nextPages : List NextPage
  lastEvent : Option TagEvent
  deriving DecidableEq, Repr

/-- Presence tracking of one hose (R64, R65). -/
structure Tracking where
  running : Bool
  misses : Nat
  restoreWindow : Timer
  deriving DecidableEq, Repr

/-! ### Roster Unit (4.1) -/

/-- Where a cache entry came from (4.1). -/
inductive Origin where
  | roster | provisional
  deriving DecidableEq, Repr

/-- The content of a roster entry: the fields of 4.1 but origin, pin count and pending update. -/
structure EntryBody where
  machine : Nat
  account : Fin 32
  permitsA : Bool
  permitsB : Bool
  perFill : Option Nat
  daily : Option Nat
  usedElsewhere : Nat
  barred : Bool
  hoursRequired : Bool
  manualAllowed : Bool
  neckCheck : Bool
  lastHours : Option Nat
  maxJump : Nat
  deriving DecidableEq, Repr

/-- An update waiting for the pin count to fall to zero (R77). -/
inductive PendingUpdate where
  | replace (body : EntryBody)
  | drop
  deriving DecidableEq, Repr

/-- A roster entry in a way of the cache (4.1). -/
structure Entry where
  body : EntryBody
  origin : Origin
  pins : Nat
  pendingUpdate : Option PendingUpdate
  deriving DecidableEq, Repr

/-- One set of the cache: three replacement bits and four ways, each invalid or holding an entry
(R73, R74). -/
structure CacheSet where
  bit0 : Bool
  bit1 : Bool
  bit2 : Bool
  ways : Vector (Option Entry) 4
  deriving DecidableEq, Repr

/-- One way of the cache. -/
structure WayRef where
  setIx : Fin 16
  way : Fin 4
  deriving DecidableEq, Repr

/-- A request on the Roster Request List (R80). -/
structure RosterRequest where
  machine : Nat
  waiters : PerHose Bool
  wait : Timer
  deriving DecidableEq, Repr

/-- An entry of the Day Usage List (R86). -/
structure UsageEntry where
  machine : Nat
  charged : Nat
  transactions : Nat
  lastHours : Option Nat
  deriving DecidableEq, Repr

/-- An entry of the Account Table (4.8). Code 0 marks it unused. -/
structure Account where
  code : Nat
  dayCap : Option Nat
  dayCharged : Nat
  periodNet : Nat
  periodAmount : Nat
  periodCount : Nat
  deriving DecidableEq, Repr

/-- The site settings (R92). -/
structure SiteSettings where
  boundaryHour : Nat
  offlineCap : Nat
  offlineAccount : Fin 32
  operatorRequired : Bool
  deriving DecidableEq, Repr

/-- The Roster Unit (4.1), but for the Site Clock. -/
structure Roster where
  cache : Vector CacheSet 16
  requests : List RosterRequest
  quickCodes : Vector (Option Nat) 16
  usage : List UsageEntry
  accounts : Vector Account 32
  stamp : Nat
  site : SiteSettings
  deriving DecidableEq, Repr

/-- The Site Clock (R90). -/
structure Clock where
  counter : Nat
  valid : Bool
  deriving DecidableEq, Repr

/-! ### Transaction Unit (5.1) -/

inductive SlotState where
  | idle | ident | lookup | overrideWait | hoursWait | ready | flowing | slowing | paused | closing
  deriving DecidableEq, Repr

inductive Method where
  | tag | quickCode | typed | override
  deriving DecidableEq, Repr

inductive HoursSource where
  | tag | panel
  deriving DecidableEq, Repr

structure EngineHours where
  hours : Nat
  source : HoursSource
  deriving DecidableEq, Repr

/-- A preset: its code, and the whole litres stored for code 15 (R100). -/
structure Preset where
  code : Nat
  litres : Nat
  deriving DecidableEq, Repr

/-- The candidates of R102, named by the binding limit each gives. -/
inductive Binding where
  | preset | fillLimit | machineAllowance | accountCap | stockAvailable | tankCapacity | ceiling
  deriving DecidableEq, Repr

structure AuthorisedVolume where
  volume : Nat
  binding : Binding
  deriving DecidableEq, Repr

/-- The hold set (R34). -/
structure HoldSet where
  operatorHold : Bool
  tagLost : Bool
  motion : Bool
  deriving DecidableEq, Repr

inductive HoldCause where
  | operatorHold | tagLost | motion
  deriving DecidableEq, Repr

/-- The eleven end causes (5.5). -/
inductive EndCause where
  | presetReached | nozzleReturned | operatorStop | noFlow | pauseLimit | tagNotRestored | tagMismatch
  | deadStock | estop | meterException | powerInterrupted
  deriving DecidableEq, Repr

/-- The ten flags of a slot, in the order of R164. -/
structure SlotFlags where
  tcSubstituted : Bool
  tempClamped : Bool
  hoursImplausible : Bool
  provisional : Bool
  officeRejected : Bool
  allowanceUntracked : Bool
  overAuthorised : Bool
  powerInterrupted : Bool
  clockInvalid : Bool
  calMode : Bool
  deriving DecidableEq, Repr

/-- The refusal reasons: the twelve checks of R101, the office's answer (R79) and the binding limits of
R102. -/
inductive RefusalReason where
  | barred | productNotPermitted | misfuel | receiving | deadStock | exceptionPending | motion | estop
  | noOperator | manualNotPermitted | machineBusy | journalFull | notOnRoster
  | limit (b : Binding)
  deriving DecidableEq, Repr

/-- A Transaction Slot (5.1). The reserved journal slot is kept in the journal's register. -/
structure Slot where
  state : SlotState
  machine : Option Nat
  entry : Option WayRef
  method : Option Method
  inlet : Option Nat
  tank : Option Nat
  hours : Option EngineHours
  preset : Preset
  account : Option (Fin 32)
  operator : Option Nat
  authorised : Option AuthorisedVolume
  price : Option Nat
  alpha : Option Nat
  authTime : Option Nat
  authDay : Option Nat
  holds : HoldSet
  endCause : Option EndCause
  flags : SlotFlags
  lastRefusal : Option RefusalReason
  identTimer : Timer
  overrideTimer : Timer
  deriving DecidableEq, Repr

/-! ### Stock Unit (6.1) -/

structure RestockNotice where
  volume : Nat
  time : Nat
  deriving DecidableEq, Repr

/-- A Compartment Stock Record (6.1). Reserved and available stock are derived. -/
structure Stock where
  book : Int
  credited : Nat
  adjusted : Nat
  dispensed : Nat
  cut : Bool
  armed : Bool
  lastNotice : Option RestockNotice
  deriving DecidableEq, Repr

inductive GaugeState where
  | absent | fault | moving | tilted | unstable | valid
  deriving DecidableEq, Repr

/-- A probe frame as taken (R123). -/
structure GaugeFrame where
  level : Nat
  temp : Int
  ok : Bool
  deriving DecidableEq, Repr

/-- The last valid gauge (R127). -/
structure GaugeReading where
  level : Nat
  gross : Nat
  net : Int
  temp : Int
  aboveTable : Bool
  time : Nat
  deriving DecidableEq, Repr

/-- A variance check's result (R131). -/
structure VarianceCheck where
  difference : Int
  tolerance : Nat
  beyond : Bool
  time : Nat
  deriving DecidableEq, Repr

/-- A Gauge Record with the variance monitor of its compartment (6.1). -/
structure Gauge where
  state : GaugeState
  latest : Option GaugeFrame
  absenceTimer : Timer
  history : List Nat
  validSince : Option Nat
  lastValid : Option GaugeReading
  validQualification : Timer
  spacing : Timer
  lastCheck : Option VarianceCheck
  deriving DecidableEq, Repr

structure TiltReading where
  pitch : BitVec 16
  roll : BitVec 16
  deriving DecidableEq, Repr

/-- The tilt reading and its reading-absence timer (R124). -/
structure Tilt where
  reading : Option TiltReading
  absenceTimer : Timer
  deriving DecidableEq, Repr

/-! ### Receipt Unit (7.1) -/

inductive ReceiptState where
  | closed | opening | filling | settling
  deriving DecidableEq, Repr

inductive CreditBasis where
  | docket | gauge
  deriving DecidableEq, Repr

/-- A snapshot of the gauge: net volume, level, ABOVE_TABLE mark (7.1). -/
structure Snapshot where
  net : Int
  level : Nat
  aboveTable : Bool
  deriving DecidableEq, Repr

inductive ReceiptOutcome where
  | credited | cancelled
  deriving DecidableEq, Repr

/-- A Receipt Record (7.1). -/
structure Receipt where
  state : ReceiptState
  docket : Option Nat
  declared : Option Nat
  basis : Option CreditBasis
  v0 : Option Snapshot
  v1 : Option Snapshot
  dispensed : Option Nat
  measured : Option Int
  variance : Option Int
  credit : Option Int
  overfillTrip : Bool
  gaugeUnavailable : Bool
  aborted : Bool
  outcome : Option ReceiptOutcome
  openTime : Option Nat
  fillStart : Option Nat
  fillEnd : Option Nat
  closeTime : Option Nat
  qualification : Timer
  limit : Timer
  deriving DecidableEq, Repr

/-! ### Journal Unit (8.1, 8.4) -/

/-- A DISPENSE record's own fields (R113, R164). -/
structure DispenseRecord where
  hose : Hose
  machine : Option Nat
  method : Option Method
  operator : Option Nat
  account : Option (Fin 32)
  authorised : Option AuthorisedVolume
  gross : Nat
  net : Nat
  meanTemp : Option Int
  price : Option Nat
  amount : Nat
  authTime : Option Nat
  authDay : Option Nat
  endTime : Nat
  endCause : Option EndCause
  hours : Option EngineHours
  exception : Option ExceptionRecord
  unmetered : Option Nat
  grossTotalizer : Nat
  flags : SlotFlags
  deriving DecidableEq, Repr

/-- A RECEIPT record's own fields (R150, R165). -/
structure ReceiptRecord where
  comp : Comp
  docket : Nat
  declared : Nat
  basis : CreditBasis
  v0 : Option Snapshot
  v1 : Option Snapshot
  dispensed : Nat
  measured : Option Int
  variance : Option Int
  credit : Int
  bookAfter : Int
  openTime : Nat
  fillStart : Nat
  fillEnd : Nat
  closeTime : Nat
  overfillTrip : Bool
  gaugeUnavailable : Bool
  aborted : Bool
  deriving DecidableEq, Repr

/-- An ADJUSTMENT record's own fields (R165). -/
structure AdjustmentRecord where
  comp : Comp
  delta : Int
  reason : Byte
  bookAfter : Int
  time : Nat
  deriving DecidableEq, Repr

/-- What a calibration write is aimed at, with the parameter it changes (9.1). -/
inductive CalTarget where
  | kq (h : Hose)
  | alpha (product : Comp)
  | strapping (c : Comp)
  | deadStock (c : Comp)
  | highHigh (c : Comp)
  | tiltLimit
  | varianceTolerance
  deriving DecidableEq, Repr

/-- A summary of a parameter's value (R182). -/
inductive CalSummary where
  | value (v : Nat)
  | pair (absolute ppm : Nat)
  | table (points lastLevel lastVolume : Nat)
  deriving DecidableEq, Repr

/-- A CALIBRATION record's own fields (R166, R182). -/
structure CalibrationRecord where
  target : CalTarget
  old : CalSummary
  new : CalSummary
  counter : Nat
  time : Nat
  deriving DecidableEq, Repr

/-- An UNATTRIBUTED record's own fields (R48, R166). -/
structure UnattributedRecord where
  hose : Hose
  gross : Nat
  net : Nat
  windowStart : Option Nat
  windowEnd : Option Nat
  grossTotalizer : Nat
  time : Nat
  deriving DecidableEq, Repr

inductive RecordBody where
  | dispense (r : DispenseRecord)
  | receipt (r : ReceiptRecord)
  | adjustment (r : AdjustmentRecord)
  | calibration (r : CalibrationRecord)
  | unattributed (r : UnattributedRecord)
  deriving DecidableEq, Repr

/-- A journal record: its sequence number, whether the journal or the composing unit flagged it
CLOCK_INVALID (R156), and the fields of its kind. -/
structure JournalRecord where
  seq : Nat
  clockInvalid : Bool
  body : RecordBody
  deriving DecidableEq, Repr

/-- The names that may hold a journal slot (8.1). -/
inductive Holder where
  | hose (h : Hose)
  | receipt (c : Comp)
  deriving DecidableEq, Repr

/-- The reservation register: for each name, absent, or a holder with its mark (8.1). -/
structure Register where
  hoses : PerHose (Option Bool)
  receipts : PerComp (Option Bool)
  deriving DecidableEq, Repr

/-- The Journal Unit (8.1). `records` is the unbroken run of uncollected records, oldest first; the
record numbered s is the one in store position s mod 512 (R154). `next` is 2^32 once the numbers are
exhausted (R155). -/
structure Journal where
  records : List JournalRecord
  oldest : Nat
  next : Nat
  register : Register
  highLatch : Bool
  cursor : Nat
  deriving DecidableEq, Repr

/-! ### Calibration Store and Depot settings (9.1, 9.4, 9.6) -/

/-- A strapping point: level and gross volume (6.5). -/
structure StrapPoint where
  level : Nat
  gross : Nat
  deriving DecidableEq, Repr

/-- The staged strapping table while it is not empty (R174). -/
structure StagedTable where
  comp : Comp
  points : List StrapPoint
  deriving DecidableEq, Repr

/-- The Calibration Store (9.1). -/
structure Calibration where
  kq : PerHose Nat
  alpha : PerComp Nat
  strapping : PerComp (List StrapPoint)
  dead : PerComp Nat
  highHigh : PerComp Nat
  tiltLimit : Nat
  tolAbsolute : Nat
  tolPpm : Nat
  audit : Nat
  staged : Option StagedTable
  deriving DecidableEq, Repr

/-- The Depot settings (9.6). -/
structure DepotSettings where
  reorder : PerComp Nat
  basis : PerComp CreditBasis
  slowBand : Nat
  closeAhead : Nat
  runOn : Nat
  deriving DecidableEq, Repr

/-! ### Supply Monitor and Save Area (10.1) -/

inductive SupplyState where
  | normal | saved
  deriving DecidableEq, Repr

inductive ResetCause where
  | powerOn | supplyRestore | panelRestart
  deriving DecidableEq, Repr

/-- The saved meter figures of a bound slot (R187). -/
structure SavedMeter where
  txn : TxnContext
  debt : Nat
  phaseErrors : Nat
  grossTotalizer : Nat
  netTotalizer : Nat
  deriving DecidableEq, Repr

/-- The machine number and account index of a slot's pinned entry (R187). -/
structure PinnedEntry where
  machine : Nat
  account : Fin 32
  deriving DecidableEq, Repr

/-- The saved context of a slot that was not IDLE (R187). -/
structure SavedSlot where
  slot : Slot
  pinned : Option PinnedEntry
  slowBand : Nat
  closeAhead : Nat
  meter : Option SavedMeter
  exception : Option ExceptionRecord
  deriving DecidableEq, Repr

/-- A compartment's figures in the Save Area (R187). -/
structure SavedStock where
  book : Int
  credited : Nat
  adjusted : Nat
  dispensed : Nat
  armed : Bool
  deriving DecidableEq, Repr

/-- A hose's totalizers in the Save Area (R187). -/
structure SavedTotals where
  gross : Nat
  net : Nat
  deriving DecidableEq, Repr

/-- The Save Area (R187). -/
structure SaveArea where
  slots : PerHose (Option SavedSlot)
  receipts : PerComp (Option Receipt)
  register : Register
  stock : PerComp SavedStock
  totals : PerHose SavedTotals
  deriving DecidableEq, Repr

/-! ### Port Unit (11) -/

/-- The status codes of 11.2 that a response can carry. -/
inductive Status where
  | ok | busy | badFrame | unknownCommand | wrongPort | outOfRange | calLocked | journalFull | badTable
  | noSuchCode | supplyLow
  deriving DecidableEq, Repr

/-- A response frame but for its length byte (11.5). -/
structure Response where
  status : Status
  payload : List Byte
  deriving DecidableEq, Repr

/-- One port (11.1, 11.4): response buffer, latched flags, mask, held events, and the bytes the part
shifted out in the latest transfer (log 4). -/
structure PortState where
  buffer : Option Response
  latched : BitVec 16
  mask : BitVec 16
  held : BitVec 16
  shifted : List Byte
  deriving DecidableEq, Repr

/-! ### Output lines (11.6) -/

/-- The lines the part drives (11.6): true is open, running, powered or asserted. -/
structure Outputs where
  main : PerHose Bool
  slow : PerHose Bool
  pump : PerComp Bool
  inlet : PerComp Bool
  coil : PerHose Bool
  rdy : PerPort Bool
  atn : PerPort Bool
  deriving DecidableEq, Repr

end Sys2Proof.Machine
end

