-- ==== Sys2Proof/Machine/Fresh.lean ====
section
/-! DEFINITION. The starting values of the blocks' RAM after power-on and after a panel restart, and the
values of the non-volatile state at manufacture. -/

namespace Sys2Proof.Machine

open Sys2Proof

def TxnContext.fresh : TxnContext :=
  { kq := 0, remainder := 0, gross := 0, w := 0, net := 0, amount := 0 }

/-- A Meter Channel at its start: unbound, SUBSTITUTED with no last valid temperature and the
sample-absence timer running from `now` (R13, R19, R22, R23); levels and totalizers are given. -/
def Channel.fresh (levels : LineLevels) (totals : SavedTotals) (now : Nat) : Channel where
  p1 := levels.p1
  p2 := levels.p2
  lastChanged := none
  debt := 0
  excessReported := false
  phaseErrors := 0
  bound := false
  txn := TxnContext.fresh
  ceilingReported := false
  unattributed := none
  tempState := .substituted
  lastTemp := none
  absenceTimer := some (now + 1000)
  holdTimer := none
  grossTotalizer := totals.gross
  netTotalizer := totals.net
  unmetered := 0

def Accumulator.zero : Accumulator := { gross := 0, net := 0, windowStart := none, windowEnd := none }

/-- A hose's control state at its start (R44, R46, R47, R49): the lift is armed if the nozzle is in its
boot (R39). -/
def HoseControl.fresh (nozzleIn : Bool) : HoseControl where
  slowBand := 0
  closeAhead := 0
  flowWindow := []
  flowStop := none
  noFlow := none
  pause := none
  settle := none
  overrunReported := false
  transactionException := none
  pendingException := none
  leakWindow := []
  leakArmed := true
  accumulator := Accumulator.zero
  liftArmed := nozzleIn

/-- Both pumps stopped, demand 0, no run-on (R42). -/
def PumpControl.fresh : PumpControl := { demand := 0, runOn := none }

/-- A nozzle reader at its start: OFF, nothing held, every last event and page absent (R69). -/
def ReaderState.off : ReaderState where
  link := .off
  stableTimer := none
  qualifyLimit := none
  retryTimer := none
  pollTimer := none
  held := none
  misses := 0
  fetchLeft := 0
  fetchUnanswered := 0
  lastBase := none
  nextPages := []
  lastEvent := none

/-- PR at its start: QUALIFYING (R52, R69), with both qualify timers running from `now` (log 28). -/
def ReaderState.panelStart (now : Nat) : ReaderState :=
  { ReaderState.off with
    link := .qualifying, stableTimer := some (now + 250), qualifyLimit := some (now + 1000) }

def Tracking.off : Tracking := { running := false, misses := 0, restoreWindow := none }

/-- A set with no valid way and every bit 0 (R73, R93). -/
def CacheSet.empty : CacheSet :=
  { bit0 := false, bit1 := false, bit2 := false, ways := Vector.replicate 4 none }

/-- An account marked unused (R88). -/
def Account.unused : Account :=
  { code := 0, dayCap := none, dayCharged := 0, periodNet := 0, periodAmount := 0, periodCount := 0 }

/-- The Roster Unit at manufacture (R85, R88, R92, R93). -/
def Roster.manufactured : Roster where
  cache := Vector.replicate 16 CacheSet.empty
  requests := []
  quickCodes := Vector.replicate 16 none
  usage := []
  accounts := Vector.replicate 32 Account.unused
  stamp := 0
  site := { boundaryHour := 0, offlineCap := 20000, offlineAccount := 31, operatorRequired := false }

/-- What a restart leaves of the Roster Unit: the cache and the Request List emptied (R93). -/
def Roster.restarted (r : Roster) : Roster :=
  { r with cache := Vector.replicate 16 CacheSet.empty, requests := [] }

/-- After power-on the counter starts from 0 and the flag is invalid (R90). -/
def Clock.fresh : Clock := { counter := 0, valid := false }

def HoldSet.empty : HoldSet := { operatorHold := false, tagLost := false, motion := false }

def SlotFlags.none : SlotFlags where
  tcSubstituted := false
  tempClamped := false
  hoursImplausible := false
  provisional := false
  officeRejected := false
  allowanceUntracked := false
  overAuthorised := false
  powerInterrupted := false
  clockInvalid := false
  calMode := false

/-- An IDLE slot: every field absent or at its default (5.1). -/
def Slot.fresh : Slot where
  state := .idle
  machine := none
  entry := none
  method := none
  inlet := none
  tank := none
  hours := none
  preset := { code := 0, litres := 0 }
  account := none
  operator := none
  authorised := none
  price := none
  alpha := none
  authTime := none
  authDay := none
  holds := HoldSet.empty
  endCause := none
  flags := SlotFlags.none
  lastRefusal := none
  identTimer := none
  overrideTimer := none

/-- A Gauge Record and variance monitor at their start (R134). -/
def Gauge.fresh : Gauge where
  state := .absent
  latest := none
  absenceTimer := none
  history := []
  validSince := none
  lastValid := none
  validQualification := none
  spacing := none
  lastCheck := none

/-- No inclinometer reading taken yet (R124, R134). -/
def Tilt.fresh : Tilt := { reading := none, absenceTimer := none }

/-- A CLOSED receipt with every field absent (R152). -/
def Receipt.fresh : Receipt where
  state := .closed
  docket := none
  declared := none
  basis := none
  v0 := none
  v1 := none
  dispensed := none
  measured := none
  variance := none
  credit := none
  overfillTrip := false
  gaugeUnavailable := false
  aborted := false
  outcome := none
  openTime := none
  fillStart := none
  fillEnd := none
  closeTime := none
  qualification := none
  limit := none

def Register.empty : Register := { hoses := PerHose.all none, receipts := PerComp.all none }

/-- The Journal Unit at manufacture (R154). -/
def Journal.manufactured : Journal where
  records := []
  oldest := 1
  next := 1
  register := Register.empty
  highLatch := false
  cursor := 1

/-- The Calibration Store at manufacture (9.1). -/
def Calibration.manufactured : Calibration where
  kq := PerHose.all 1000
  alpha := PerComp.all 0
  strapping := PerComp.all [⟨0, 0⟩, ⟨40000, 4000000⟩]
  dead := PerComp.all 0
  highHigh := PerComp.all 40000
  tiltLimit := 20
  tolAbsolute := 2000
  tolPpm := 5000
  audit := 0
  staged := none

/-- The Depot settings at manufacture (9.6). -/
def DepotSettings.manufactured : DepotSettings where
  reorder := PerComp.all 0
  basis := PerComp.all .docket
  slowBand := 200
  closeAhead := 10
  runOn := 5

/-- A compartment's figures at manufacture (R117, R129). -/
def SavedStock.manufactured : SavedStock :=
  { book := 0, credited := 0, adjusted := 0, dispensed := 0, armed := true }

/-- The Save Area of a part that has never saved (R192, log 9). -/
def SaveArea.manufactured : SaveArea where
  slots := PerHose.all none
  receipts := PerComp.all none
  register := Register.empty
  stock := PerComp.all SavedStock.manufactured
  totals := PerHose.all { gross := 0, net := 0 }

/-- A port whose buffer is empty, with no flag latched, masked or held (R196, R198, R200, R188). -/
def PortState.fresh : PortState :=
  { buffer := none, latched := 0, mask := 0, held := 0, shifted := [] }

end Sys2Proof.Machine
end

