-- ==== Sys2Proof/Machine/State.lean ====
section
/-! DEFINITION. The state of the part as plain data, the ways a step can stop, and the state after
reset. -/

namespace Sys2Proof.Machine

open Sys2Proof

/-- The state of the part. -/
structure State where
  /-- The commands that wait, first in, first out (log 1). -/
  pending : List Instr
  /-- Milliseconds since power-on, as far as commands have told the time (log 2). -/
  now : Nat
  chan : PerHose Channel
  hoseCtl : PerHose HoseControl
  pumps : PerComp PumpControl
  nozzleReader : PerHose ReaderState
  panelReader : ReaderState
  tracking : PerHose Tracking
  pendingTag : PerHose Bool
  operator : Option Nat
  logoffTimer : Timer
  supervisor : Timer
  roster : Roster
  clock : Clock
  slots : PerHose Slot
  prices : PerComp Nat
  stock : PerComp Stock
  gauge : PerComp Gauge
  tilt : Tilt
  receipts : PerComp Receipt
  journal : Journal
  cal : Calibration
  depot : DepotSettings
  supply : SupplyState
  resetCause : ResetCause
  save : SaveArea
  ports : PerPort PortState
  switches : Switches
  out : Outputs
  deriving DecidableEq, Repr

/-- The block has no fault: the spec gives it no event after which it stops. -/
inductive Fault where
  deriving DecidableEq, Repr

/-- Refusals of the model. -/
inductive Refusal where
  /-- Raised by `exec` alone, for a command that has no meaning yet. Safe: nothing is claimed of it. -/
  | notModelled (mnemonic : String)
  deriving DecidableEq, Repr

/-- The machine right after reset: the first power-on of a part as manufactured (R192, log 8), with the
nozzles in their boots, the emergency stop, overfill inputs and CAL_ENABLE released, the park brake
set and every meter line low (log 7). Both compartments are cut, since book stock and dead stock are 0
(6.1), and RESTARTED is latched and unmasked on every port (R192). -/
def State.reset : State where
  pending := []
  now := 0
  chan := PerHose.all (Channel.fresh ⟨false, false⟩ ⟨0, 0⟩ 0)
  hoseCtl := PerHose.all (HoseControl.fresh true)
  pumps := PerComp.all PumpControl.fresh
  nozzleReader := PerHose.all ReaderState.off
  panelReader := ReaderState.panelStart 0
  tracking := PerHose.all Tracking.off
  pendingTag := PerHose.all false
  operator := none
  logoffTimer := none
  supervisor := none
  roster := Roster.manufactured
  clock := Clock.fresh
  slots := PerHose.all Slot.fresh
  prices := PerComp.all 0
  stock := PerComp.all
    { book := 0, credited := 0, adjusted := 0, dispensed := 0, cut := true, armed := true, lastNotice := none }
  gauge := PerComp.all Gauge.fresh
  tilt := Tilt.fresh
  receipts := PerComp.all Receipt.fresh
  journal := Journal.manufactured
  cal := Calibration.manufactured
  depot := DepotSettings.manufactured
  supply := .normal
  resetCause := .powerOn
  save := SaveArea.manufactured
  ports :=
    { panel := { PortState.fresh with latched := 0x200#16 }
      office := { PortState.fresh with latched := 0x200#16 }
      depot := { PortState.fresh with latched := 0x80#16 } }
  switches :=
    { nozzleIn := PerHose.all true, estop := false, brakeReleased := false,
      overfill := PerComp.all false, calEnable := false }
  out :=
    { main := PerHose.all false, slow := PerHose.all false, pump := PerComp.all false,
      inlet := PerComp.all false, coil := PerHose.all false, rdy := PerPort.all false,
      atn := PerPort.all true }

end Sys2Proof.Machine
end

