-- ==== Sys2Proof/Machine/Ops.lean ====
section
/-! DEFINITION. The named operations over the state that every block uses: reading and updating one
block of one hose, compartment or port; timers; the arithmetic of 00; field encoding; the derived
figures of a slot and of a compartment. -/

namespace Sys2Proof.Machine

open Sys2Proof

/-! ### Names -/

/-- H1 and H2 draw from A, H3 from B (00, Names). -/
def hoseComp : Hose → Comp
  | .h1 | .h2 => .a
  | .h3 => .b

/-- The hoses that draw from a compartment. -/
def compHoses : Comp → List Hose
  | .a => [.h1, .h2]
  | .b => [.h3]

def allHoses : List Hose := [.h1, .h2, .h3]

def allComps : List Comp := [.a, .b]

/-! ### One block of the state -/

def State.modChan (s : State) (h : Hose) (f : Channel → Channel) : State :=
  { s with chan := s.chan.set h (f (s.chan.get h)) }

def State.modHoseCtl (s : State) (h : Hose) (f : HoseControl → HoseControl) : State :=
  { s with hoseCtl := s.hoseCtl.set h (f (s.hoseCtl.get h)) }

def State.modPump (s : State) (c : Comp) (f : PumpControl → PumpControl) : State :=
  { s with pumps := s.pumps.set c (f (s.pumps.get c)) }

def State.modTracking (s : State) (h : Hose) (f : Tracking → Tracking) : State :=
  { s with tracking := s.tracking.set h (f (s.tracking.get h)) }

def State.modSlot (s : State) (h : Hose) (f : Slot → Slot) : State :=
  { s with slots := s.slots.set h (f (s.slots.get h)) }

def State.modStock (s : State) (c : Comp) (f : Stock → Stock) : State :=
  { s with stock := s.stock.set c (f (s.stock.get c)) }

def State.modGauge (s : State) (c : Comp) (f : Gauge → Gauge) : State :=
  { s with gauge := s.gauge.set c (f (s.gauge.get c)) }

def State.modReceipt (s : State) (c : Comp) (f : Receipt → Receipt) : State :=
  { s with receipts := s.receipts.set c (f (s.receipts.get c)) }

def State.modPort (s : State) (p : Port) (f : PortState → PortState) : State :=
  { s with ports := s.ports.set p (f (s.ports.get p)) }

def State.reader (s : State) : Reader → ReaderState
  | .nr h => s.nozzleReader.get h
  | .pr => s.panelReader

def State.modReader (s : State) (r : Reader) (f : ReaderState → ReaderState) : State :=
  match r with
  | .nr h => { s with nozzleReader := s.nozzleReader.set h (f (s.nozzleReader.get h)) }
  | .pr => { s with panelReader := f s.panelReader }

def State.modRoster (s : State) (f : Roster → Roster) : State := { s with roster := f s.roster }

def State.modJournal (s : State) (f : Journal → Journal) : State := { s with journal := f s.journal }

def State.modCal (s : State) (f : Calibration → Calibration) : State := { s with cal := f s.cal }

def State.setPendingTag (s : State) (h : Hose) (b : Bool) : State :=
  { s with pendingTag := s.pendingTag.set h b }

def State.slotState (s : State) (h : Hose) : SlotState := (s.slots.get h).state

/-- The supply is NORMAL (R186). -/
def State.isNormal (s : State) : Bool := s.supply == .normal

/-! ### Timers -/

/-- A timer of `ms` milliseconds started now (00, Time). -/
def State.timer (s : State) (ms : Nat) : Timer := some (s.now + ms)

/-- Whole seconds left on a timer, rounded up (R70; log 26). -/
def State.secondsLeft (s : State) (due : Nat) : Nat := (due - s.now + 999) / 1000

/-! ### Arithmetic (00) -/

/-- The quotient rounded to the nearest integer, halves away from zero (00, Arithmetic). -/
def roundedDiv (n : Int) (d : Nat) : Int :=
  if n < 0 then -(((2 * n.natAbs + d) / (2 * d) : Nat) : Int)
  else ((2 * n.natAbs + d) / (2 * d) : Nat)

/-- The least integer not below a / b (00, Arithmetic). -/
def ceilDiv (a b : Nat) : Nat := (a + b - 1) / b

/-- A value limited to a range. -/
def clampInt (lo hi v : Int) : Int := if v < lo then lo else if hi < v then hi else v

/-- The correction rounded(α × X / 10,000,000) of R14 and R127. -/
def correction (alpha : Nat) (x : Int) : Int := roundedDiv (alpha * x) 10000000

/-- rounded(net × price / 1000) (R16). -/
def amountOf (net price : Nat) : Nat := (2 * (net * price) + 1000) / 2000

/-- The greatest magnitude of book stock, 2^39 (R117). -/
def bookLimit : Int := 549755813888

/-- The modulus of the stock counters, 2^40 (R117). -/
def counterModulus : Nat := 1099511627776

/-- The modulus of the totalizers, 10^11 (R18). -/
def totalizerModulus : Nat := 100000000000

/-- The number that stands for exhausted sequence numbers, 2^32 (R155). -/
def seqEnd : Nat := 4294967296

/-! ### Fields of responses: most significant byte first (11.5) -/

/-- The low `n` bytes of `v`, most significant first. -/
def beBytes : Nat → Nat → List Byte
  | 0, _ => []
  | n + 1, v => BitVec.ofNat 8 (v / 256 ^ n) :: beBytes n v

/-- An unsigned field of `n` bytes; a value too wide for it is left open (log 11). -/
def field (n v : Nat) : List Byte :=
  if v < 256 ^ n then beBytes n v else beBytes n (Config.unrepresented n v).toNat

/-- A signed field of `n` bytes, two's complement; a value too wide for it is left open (log 11). -/
def fieldInt (n : Nat) (v : Int) : List Byte :=
  if -(256 ^ n : Nat) ≤ 2 * v ∧ 2 * v < (256 ^ n : Nat) then beBytes n (v % (256 ^ n : Nat)).toNat
  else beBytes n (Config.unrepresented n v).toNat

def boolByte (b : Bool) : Byte := if b then 1 else 0

def boolBit (b : Bool) : Nat := if b then 1 else 0

/-- A number from its bits, bit 0 first. -/
def bitsNat : List Bool → Nat
  | [] => 0
  | b :: bs => boolBit b + 2 * bitsNat bs

/-! ### Classes of slot state (5.1) -/

/-- READY, FLOWING or SLOWING: the states that open valves and raise pump demand (R27, R42). -/
def SlotState.delivers : SlotState → Bool
  | .ready | .flowing | .slowing => true
  | _ => false

/-- READY, FLOWING, SLOWING or PAUSED: the states a closing event takes to CLOSING (R32). -/
def SlotState.running : SlotState → Bool
  | .ready | .flowing | .slowing | .paused => true
  | _ => false

/-- READY to CLOSING: the slot holds an active transaction (5.1). -/
def SlotState.authorised : SlotState → Bool
  | .ready | .flowing | .slowing | .paused | .closing => true
  | _ => false

/-- IDENT, LOOKUP, OVERRIDE_WAIT or HOURS_WAIT: a slot before READY (R109). -/
def SlotState.waiting : SlotState → Bool
  | .ident | .lookup | .overrideWait | .hoursWait => true
  | _ => false

/-! ### Derived figures -/

/-- The Kq in effect (R6): latched while the channel is bound, else the Calibration Store's. -/
def State.kqInEffect (s : State) (h : Hose) : Nat :=
  if (s.chan.get h).bound then (s.chan.get h).txn.kq else s.cal.kq.get h

/-- A slot's authorised volume, 0 where none is fixed. -/
def Slot.authorisedVolume (x : Slot) : Nat := (x.authorised.map (·.volume)).getD 0

/-- The reserved remainder of a transaction, max(0, authorised − net), from READY to CLOSING (R107). -/
def State.reservedRemainder (s : State) (h : Hose) : Nat :=
  if (s.slotState h).authorised then (s.slots.get h).authorisedVolume - (s.chan.get h).txn.net else 0

/-- Reserved stock of a compartment (R107, R119). -/
def State.reservedStock (s : State) (c : Comp) : Nat :=
  ((compHoses c).map s.reservedRemainder).sum

/-- Available stock, max(0, book − dead − reserved) (R119). -/
def State.availableStock (s : State) (c : Comp) : Nat :=
  ((s.stock.get c).book - s.cal.dead.get c - s.reservedStock c).toNat

/-- No slot is active (5.1). -/
def State.allIdle (s : State) : Bool := allHoses.all fun h => s.slotState h == .idle

/-- Every slot on the compartment is IDLE (R130). -/
def State.compIdle (s : State) (c : Comp) : Bool := (compHoses c).all fun h => s.slotState h == .idle

/-! ### What forces a drive (R27, R43, R140) -/

/-- The compartment's valve and pump drives are forced off: emergency stop, supply SAVED, or dead-stock
cut (R27, R43). -/
def State.drivesForced (s : State) (c : Comp) : Bool :=
  s.switches.estop || !s.isNormal || (s.stock.get c).cut

/-- The inlet drive is forced closed: overfill input, emergency stop, or supply SAVED (R140). -/
def State.inletForced (s : State) (c : Comp) : Bool :=
  s.switches.overfill.get c || s.switches.estop || !s.isNormal

/-! ### Output lines -/

def State.mainOpen (s : State) (h : Hose) : Bool :=
  (s.slotState h == .ready || s.slotState h == .flowing) && !s.drivesForced (hoseComp h)

def State.slowOpen (s : State) (h : Hose) : Bool :=
  (s.slotState h).delivers && !s.drivesForced (hoseComp h)

/-- The pump runs on demand or run-on while nothing forces it (R42, R43). -/
def State.pumpRuns (s : State) (c : Comp) : Bool :=
  !s.drivesForced c && (0 < (s.pumps.get c).demand || (s.pumps.get c).runOn.isSome)

/-- The inlet drive is open only while the receipt is FILLING (R140). -/
def State.inletOpen (s : State) (c : Comp) : Bool :=
  (s.receipts.get c).state == .filling && !s.inletForced c

/-- A nozzle reader's coil is powered unless it is OFF (R51). -/
def State.coilOn (s : State) (h : Hose) : Bool := (s.nozzleReader.get h).link != .off

/-- RDY: a response waits (R194, R196). -/
def PortState.rdy (x : PortState) : Bool := x.buffer.isSome

/-- ATN: a latched flag is unmasked (R200). -/
def PortState.atn (x : PortState) : Bool := x.latched &&& ~~~x.mask != 0

/-- The levels the part drives its lines to. -/
def State.outputs (s : State) : Outputs where
  main := ⟨s.mainOpen .h1, s.mainOpen .h2, s.mainOpen .h3⟩
  slow := ⟨s.slowOpen .h1, s.slowOpen .h2, s.slowOpen .h3⟩
  pump := ⟨s.pumpRuns .a, s.pumpRuns .b⟩
  inlet := ⟨s.inletOpen .a, s.inletOpen .b⟩
  coil := ⟨s.coilOn .h1, s.coilOn .h2, s.coilOn .h3⟩
  rdy := ⟨s.ports.panel.rdy, s.ports.office.rdy, s.ports.depot.rdy⟩
  atn := ⟨s.ports.panel.atn, s.ports.office.atn, s.ports.depot.atn⟩

/-- The end of every command: each output line takes the level the state calls for. -/
def State.finish (s : State) : Host.Outcome State Fault Refusal := .next { s with out := s.outputs }

end Sys2Proof.Machine
end

