-- ==== Sys2Proof/Machine/Flags.lean ====
section
/-! DEFINITION. Event flags and their ports (11.4), how an event is raised, and the bits of the flag
sets the layouts carry. -/

namespace Sys2Proof.Machine

open Sys2Proof

/-- The events of 11.4. -/
inductive Event where
  | hoseState (h : Hose)
  | tagEvent
  | exception (h : Hose)
  | stockCut
  | estop
  | restarted
  | rosterRequest
  | journalNew
  | journalHigh
  | dayRollover
  | stockVariance
  | restockNeeded
  | calibration
  | provisional
  | usageFull
  | receiptState (c : Comp)
  | overfill
  | gaugeState (c : Comp)
  deriving DecidableEq, Repr

/-- The bit of an event on a port, in the order of the table of 11.4; absent where the port has no such
flag. -/
def Event.bit : Port → Event → Option Nat
  | .panel, .hoseState .h1 => some 0
  | .panel, .hoseState .h2 => some 1
  | .panel, .hoseState .h3 => some 2
  | .panel, .tagEvent => some 3
  | .panel, .exception .h1 => some 4
  | .panel, .exception .h2 => some 5
  | .panel, .exception .h3 => some 6
  | .panel, .stockCut => some 7
  | .panel, .estop => some 8
  | .panel, .restarted => some 9
  | .office, .rosterRequest => some 0
  | .office, .journalNew => some 1
  | .office, .journalHigh => some 2
  | .office, .dayRollover => some 3
  | .office, .stockVariance => some 4
  | .office, .restockNeeded => some 5
  | .office, .calibration => some 6
  | .office, .provisional => some 7
  | .office, .usageFull => some 8
  | .office, .restarted => some 9
  | .depot, .receiptState .a => some 0
  | .depot, .receiptState .b => some 1
  | .depot, .overfill => some 2
  | .depot, .gaugeState .a => some 3
  | .depot, .gaugeState .b => some 4
  | .depot, .stockVariance => some 5
  | .depot, .restockNeeded => some 6
  | .depot, .restarted => some 7
  | _, _ => none

/-- The flags of a port, as many as 11.4 lists. -/
def flagCount : Port → Nat
  | .panel | .office => 10
  | .depot => 8

/-- The event's bit on a port as a flag set; empty where the port has no such flag. -/
def Event.mask (p : Port) (e : Event) : BitVec 16 :=
  match e.bit p with
  | none => 0
  | some n => 1#16 <<< n

/-- One port's part in a raise: the flag is latched, or held while the supply is SAVED (R188, R198). -/
def PortState.raise (normal : Bool) (bits : BitVec 16) (x : PortState) : PortState :=
  if normal then { x with latched := x.latched ||| bits } else { x with held := x.held ||| bits }

/-- An event is raised: the flag of every port that has it is set (R198), or held while the supply is
SAVED (R188). -/
def State.raise (s : State) (e : Event) : State :=
  { s with
    ports :=
      { panel := s.ports.panel.raise s.isNormal (e.mask .panel)
        office := s.ports.office.raise s.isNormal (e.mask .office)
        depot := s.ports.depot.raise s.isNormal (e.mask .depot) } }

/-- The flag of an event is latched on a port. -/
def PortState.hasFlag (x : PortState) (p : Port) (e : Event) : Bool := x.latched &&& e.mask p != 0

/-- The held events of a port are latched and emptied, at the return to NORMAL (R188). -/
def PortState.latchHeld (x : PortState) : PortState :=
  { x with latched := x.latched ||| x.held, held := 0 }

def State.latchHeld (s : State) : State :=
  { s with
    ports := ⟨s.ports.panel.latchHeld, s.ports.office.latchHeld, s.ports.depot.latchHeld⟩ }

/-! ### Flag sets of the layouts -/

/-- A slot's flag set, bits 0 to 9 in the order of R164's list (11.5). -/
def SlotFlags.bits (f : SlotFlags) : Nat :=
  bitsNat [f.tcSubstituted, f.tempClamped, f.hoursImplausible, f.provisional, f.officeRejected,
    f.allowanceUntracked, f.overAuthorised, f.powerInterrupted, f.clockInvalid, f.calMode]

/-- The hold set: bit 0 OPERATOR_HOLD, bit 1 TAG_LOST, bit 2 MOTION (R202). -/
def HoldSet.bits (x : HoldSet) : Nat := bitsNat [x.operatorHold, x.tagLost, x.motion]

/-- The hold set holds no cause. -/
def HoldSet.isEmpty (x : HoldSet) : Bool := !x.operatorHold && !x.tagLost && !x.motion

def HoldSet.has (x : HoldSet) : HoldCause → Bool
  | .operatorHold => x.operatorHold
  | .tagLost => x.tagLost
  | .motion => x.motion

def HoldSet.put (x : HoldSet) (k : HoldCause) (b : Bool) : HoldSet :=
  match k with
  | .operatorHold => { x with operatorHold := b }
  | .tagLost => { x with tagLost := b }
  | .motion => { x with motion := b }

end Sys2Proof.Machine
end

