-- ==== Sys2Proof/Machine/Operands.lean ====
section
/-! DEFINITION. Every operand form: the request fields of R202 read as the values they stand for, the tag
pages of R201, the Preset Code Table, and the codes of the enumerated values that responses carry. -/

namespace Sys2Proof.Machine

open Sys2Proof

/-! ### Request fields (R202) -/

/-- Hoses are carried as 1 to 3. -/
def hoseOf (b : Byte) : Option Hose :=
  match b.toNat with
  | 1 => some .h1
  | 2 => some .h2
  | 3 => some .h3
  | _ => none

/-- A compartment is carried as 0 for A and 1 for B. -/
def compOf (b : Byte) : Option Comp :=
  match b.toNat with
  | 0 => some .a
  | 1 => some .b
  | _ => none

/-- Products are carried as 1 or 2; the product of A is 1, of B is 2. -/
def productOf (b : Byte) : Option Comp :=
  match b.toNat with
  | 1 => some .a
  | 2 => some .b
  | _ => none

/-- An account index, 0 to 31. -/
def accountOf (b : Byte) : Option (Fin 32) :=
  if h : b.toNat < 32 then some ⟨b.toNat, h⟩ else none

/-- A quick code, 0 to 15. -/
def quickCodeOf (n : Nat) : Option (Fin 16) := if h : n < 16 then some ⟨n, h⟩ else none

/-- A credit basis: 0 DOCKET, 1 GAUGE. -/
def basisOf (b : Byte) : Option CreditBasis :=
  match b.toNat with
  | 0 => some .docket
  | 1 => some .gauge
  | _ => none

/-- A yes or no mark: 0 no, 1 yes. -/
def yesNoOf (b : Byte) : Option Bool :=
  match b.toNat with
  | 0 => some false
  | 1 => some true
  | _ => none

/-- The range of machine numbers, 1 to 16,777,214 (00). -/
def machineInRange (n : Nat) : Bool := 1 ≤ n && n ≤ 16777214

/-- The greatest volume of an allowance, level or cap, 99,999,999 cL. -/
def maxVolume : Nat := 99999999

/-- The greatest engine hours, 9,999,999 (00). -/
def maxHours : Nat := 9999999

/-- A LOAD_ROSTER entry's fields, absent when any lies outside its range (R76, R201). -/
def entryOf (e : WireEntry) : Option EntryBody :=
  match accountOf e.account with
  | none => none
  | some account =>
    if machineInRange e.machine.toNat
        && e.permissions.toNat ≤ 3
        && e.perFill.toNat ≤ 999999
        && (e.daily == 0xFFFFFFFF#32 || e.daily.toNat ≤ maxVolume)
        && e.usedElsewhere.toNat ≤ maxVolume
        && e.flags.toNat ≤ 15
        && (e.lastHours == 0xFFFFFF#24 || e.lastHours.toNat ≤ maxHours)
        && e.maxJump.toNat ≤ maxHours then
      some
        { machine := e.machine.toNat
          account := account
          permitsA := e.permissions.getLsbD 0
          permitsB := e.permissions.getLsbD 1
          perFill := if e.perFill.toNat = 0 then none else some e.perFill.toNat
          daily := if e.daily = 0xFFFFFFFF#32 then none else some e.daily.toNat
          usedElsewhere := e.usedElsewhere.toNat
          barred := e.flags.getLsbD 0
          hoursRequired := e.flags.getLsbD 1
          manualAllowed := e.flags.getLsbD 2
          neckCheck := e.flags.getLsbD 3
          lastHours := if e.lastHours = 0xFFFFFF#24 then none else some e.lastHours.toNat
          maxJump := if e.maxJump.toNat = 0 then 20000 else e.maxJump.toNat }
    else none

/-- Every entry of a frame read, or absent when one is out of range (R76). -/
def entriesOf : List WireEntry → Option (List EntryBody)
  | [] => some []
  | e :: es =>
    match entryOf e, entriesOf es with
    | some b, some bs => some (b :: bs)
    | _, _ => none

/-- A daily cap on the wire: 0xFFFFFFFF is absent (R202). -/
def capOf (v : BitVec 32) : Option Nat := if v = 0xFFFFFFFF#32 then none else some v.toNat

/-- A strapping point within the ranges of 9.1. -/
def pointInRange (q : WirePoint) : Bool := q.level.toNat ≤ 40000 && q.gross.toNat ≤ maxVolume

def pointOf (q : WirePoint) : StrapPoint := ⟨q.level.toNat, q.gross.toNat⟩

/-! ### The Preset Code Table (5.2) -/

/-- The volume of a preset in cL; absent for FILL (R100). -/
def Preset.volume (p : Preset) : Option Nat :=
  match p.code with
  | 0 => none
  | 1 => some 2000
  | 2 => some 5000
  | 3 => some 10000
  | 4 => some 15000
  | 5 => some 20000
  | 6 => some 25000
  | 7 => some 30000
  | 8 => some 40000
  | 9 => some 50000
  | 10 => some 60000
  | 11 => some 80000
  | 12 => some 100000
  | 13 => some 150000
  | 14 => some 200000
  | _ => some (p.litres * 100)

/-- The preset SET_PRESET stores: the custom litres are read for code 15 alone, 0 as 1 and more than
9,999 as 9,999 (R100). Under every other code the stored litres, which READ_HOSE carries, are 0: the model's
choice (log 46). -/
def presetOf (code : Byte) (litres : BitVec 16) : Preset :=
  if code.toNat = 15 then ⟨15, max 1 (min 9999 litres.toNat)⟩ else ⟨code.toNat, 0⟩

/-! ### Tag pages (11.5, R201) -/

/-- The class in bits 7 and 6 of byte 0; class 3 names none. -/
def pageClass (b : BasePage) : Option TagClass :=
  match (b.head.extractLsb' 6 2).toNat with
  | 0 => some .machine
  | 1 => some .operator
  | 2 => some .supervisor
  | _ => none

/-- The inlet product in bits 5 to 3. -/
def pageInlet (b : BasePage) : Nat := (b.head.extractLsb' 3 3).toNat

/-- The next-page count in bits 1 and 0. -/
def pageNextCount (b : BasePage) : Nat := (b.head.extractLsb' 0 2).toNat

/-- The low byte of the sum of a page's bytes before its check byte. -/
def baseCheck (b : BasePage) : Byte :=
  b.head + b.number.extractLsb' 16 8 + b.number.extractLsb' 8 8 + b.number.extractLsb' 0 8

def nextCheck (q : NextPage) : Byte :=
  q.kind + q.value.extractLsb' 24 8 + q.value.extractLsb' 16 8 + q.value.extractLsb' 8 8
    + q.value.extractLsb' 0 8

/-- What a poll brings the part: a page whose check byte is wrong is no answer (R201). -/
def checkedAnswer : PollAnswer → PollAnswer
  | .basePage b k => if baseCheck b = k then .basePage b k else .noAnswer
  | .nextPage q k => if nextCheck q = k then .nextPage q k else .noAnswer
  | a => a

/-- The tag a reader takes from a base page: its class is one the reader accepts (R54) and its number
lies in the range of its class (R201); every other base page is discarded. -/
def acceptedTag (r : Reader) (b : BasePage) : Option HeldTag :=
  match r, pageClass b with
  | .nr _, some .machine => if machineInRange b.number.toNat then some ⟨.machine, b.number.toNat⟩ else none
  | .pr, some .operator =>
    if 1 ≤ b.number.toNat ∧ b.number.toNat ≤ 65535 then some ⟨.operator, b.number.toNat⟩ else none
  | .pr, some .supervisor =>
    if 1 ≤ b.number.toNat ∧ b.number.toNat ≤ 65535 then some ⟨.supervisor, b.number.toNat⟩ else none
  | _, _ => none

/-- The value of the last page of a kind (R55: the later of two pages of one kind is used). -/
def lastPage (kind : Nat) (pages : List NextPage) : Option Nat :=
  ((pages.filter fun q => q.kind.toNat == kind).getLast?).map (·.value.toNat)

/-- Engine hours from an exchange's pages: kind 1; above 9,999,999 is no hours (R55). -/
def pageHours (pages : List NextPage) : Option Nat :=
  (lastPage 1 pages).bind fun v => if v ≤ maxHours then some v else none

/-- Tank capacity from an exchange's pages: kind 3; 0 is no capacity (R55). -/
def pageTank (pages : List NextPage) : Option Nat :=
  (lastPage 3 pages).bind fun v => if v = 0 then none else some v

/-! ### Codes of enumerated values (11.2, R197, R202) -/

def Status.code : Status → Nat
  | .ok => 0x00
  | .busy => 0x01
  | .badFrame => 0x02
  | .unknownCommand => 0x03
  | .wrongPort => 0x04
  | .outOfRange => 0x05
  | .calLocked => 0x07
  | .journalFull => 0x08
  | .badTable => 0x09
  | .noSuchCode => 0x0A
  | .supplyLow => 0x0B

def hoseCode : Hose → Nat
  | .h1 => 1
  | .h2 => 2
  | .h3 => 3

def compCode : Comp → Nat
  | .a => 0
  | .b => 1

/-- The product of a compartment: A diesel 1, B exhaust-treatment fluid 2. -/
def productCode : Comp → Nat
  | .a => 1
  | .b => 2

def SlotState.code : SlotState → Nat
  | .idle => 0
  | .ident => 1
  | .lookup => 2
  | .overrideWait => 3
  | .hoursWait => 4
  | .ready => 5
  | .flowing => 6
  | .slowing => 7
  | .paused => 8
  | .closing => 9

def Method.code : Method → Nat
  | .tag => 1
  | .quickCode => 2
  | .typed => 3
  | .override => 4

def HoursSource.code : HoursSource → Nat
  | .tag => 1
  | .panel => 2

def Binding.code : Binding → Nat
  | .preset => 1
  | .fillLimit => 2
  | .machineAllowance => 3
  | .accountCap => 4
  | .stockAvailable => 5
  | .tankCapacity => 6
  | .ceiling => 7

def EndCause.code : EndCause → Nat
  | .presetReached => 1
  | .nozzleReturned => 2
  | .operatorStop => 3
  | .noFlow => 4
  | .pauseLimit => 5
  | .tagNotRestored => 6
  | .tagMismatch => 7
  | .deadStock => 8
  | .estop => 9
  | .meterException => 10
  | .powerInterrupted => 11

def MeterException.code : MeterException → Nat
  | .pulsePhase => 1
  | .reverseExcess => 2
  | .overrun => 3
  | .leak => 4

def TempState.code : TempState → Nat
  | .valid => 0
  | .holding => 1
  | .substituted => 2

def LinkState.code : LinkState → Nat
  | .off => 0
  | .qualifying => 1
  | .listening => 2
  | .tagPresent => 3
  | .fault => 4

def TagEventKind.code : TagEventKind → Nat
  | .readerFault => 1
  | .tagConflict => 2
  | .tagNotUsed => 3
  | .operatorOn => 4
  | .operatorOff => 5
  | .supervisorOpen => 6
  | .supervisorClosed => 7

def GaugeState.code : GaugeState → Nat
  | .absent => 0
  | .fault => 1
  | .moving => 2
  | .tilted => 3
  | .unstable => 4
  | .valid => 5

def ReceiptState.code : ReceiptState → Nat
  | .closed => 0
  | .opening => 1
  | .filling => 2
  | .settling => 3

def ReceiptOutcome.code : ReceiptOutcome → Nat
  | .credited => 1
  | .cancelled => 2

def CreditBasis.code : CreditBasis → Nat
  | .docket => 0
  | .gauge => 1

def SupplyState.code : SupplyState → Nat
  | .normal => 0
  | .saved => 1

def ResetCause.code : ResetCause → Nat
  | .powerOn => 1
  | .supplyRestore => 2
  | .panelRestart => 3

/-- The reason byte of R197. PRESET and CEILING never refuse (R102), so they have no value there. -/
def RefusalReason.code : RefusalReason → Nat
  | .barred => 1
  | .productNotPermitted => 2
  | .misfuel => 3
  | .receiving => 4
  | .deadStock => 5
  | .exceptionPending => 6
  | .motion => 7
  | .estop => 8
  | .noOperator => 9
  | .manualNotPermitted => 10
  | .machineBusy => 11
  | .journalFull => 12
  | .notOnRoster => 13
  | .limit .fillLimit => 14
  | .limit .machineAllowance => 15
  | .limit .accountCap => 16
  | .limit .stockAvailable => 17
  | .limit .tankCapacity => 18
  | .limit .preset => 0
  | .limit .ceiling => 0

/-- Parameter identifier, target kind and target of a calibration write (R202). -/
def CalTarget.codes : CalTarget → Nat × Nat × Nat
  | .kq h => (1, 1, hoseCode h)
  | .alpha p => (2, 2, productCode p)
  | .strapping c => (3, 3, compCode c)
  | .deadStock c => (4, 3, compCode c)
  | .highHigh c => (5, 3, compCode c)
  | .tiltLimit => (6, 0, 0)
  | .varianceTolerance => (7, 0, 0)

end Sys2Proof.Machine
end

