-- ==== Sys2Proof/Machine/JournalUnit.lean ====
section
/-! DEFINITION. The Journal Unit's own operations (8.2 to 8.5): counts, reservations, appends,
conversions, the high mark and the release of records. -/

namespace Sys2Proof.Machine

open Sys2Proof

/-- The holders in the register (8.1). -/
def Register.count (r : Register) : Nat :=
  boolBit r.hoses.h1.isSome + boolBit r.hoses.h2.isSome + boolBit r.hoses.h3.isSome
    + boolBit r.receipts.a.isSome + boolBit r.receipts.b.isSome

def Register.get (r : Register) : Holder → Option Bool
  | .hose h => r.hoses.get h
  | .receipt c => r.receipts.get c

def Register.put (r : Register) (k : Holder) (v : Option Bool) : Register :=
  match k with
  | .hose h => { r with hoses := r.hoses.set h v }
  | .receipt c => { r with receipts := r.receipts.set c v }

/-- The uncollected count, next − oldest uncollected (8.1). -/
def Journal.uncollected (j : Journal) : Nat := j.next - j.oldest

/-- The free count (R157): 512 less the uncollected count, or the numbers still to be issued where those
are fewer, less the reserved count. Every holder keeps a slot and a number in hand (R155; log 14). -/
def Journal.free (j : Journal) : Nat :=
  min (512 - j.uncollected) (seqEnd - j.next) - j.register.count

/-- R162: the latch is set and JOURNAL_HIGH raised when the free count falls from 33 or more to 32 or
less, and cleared when it rises from 32 or less to 33 or more. `before` is the free count before the
change. -/
def State.noteFree (s : State) (before : Nat) : State :=
  if 33 ≤ before ∧ s.journal.free ≤ 32 then
    (s.modJournal fun j => { j with highLatch := true }).raise .journalHigh
  else if before ≤ 32 ∧ 33 ≤ s.journal.free then s.modJournal fun j => { j with highLatch := false }
  else s

/-- A slot is reserved for a holder, with the Site Clock's flag as its mark (R158). -/
def State.reserveSlot (s : State) (k : Holder) : State :=
  (s.modJournal fun j => { j with register := j.register.put k (some !s.clock.valid) }).noteFree
    s.journal.free

/-- A reservation is released without a record (R160). -/
def State.releaseSlot (s : State) (k : Holder) : State :=
  (s.modJournal fun j => { j with register := j.register.put k none }).noteFree s.journal.free

/-- Whether the composing unit's own flags hold CLOCK_INVALID (R156): a DISPENSE record's may. -/
def RecordBody.ownClockInvalid : RecordBody → Bool
  | .dispense r => r.flags.clockInvalid
  | _ => false

/-- A record is written at the next sequence number, which rises by one, in one event (R154, R155).
CLOCK_INVALID joins it as R156 says: `mark` is the holder's mark. -/
def State.pushRecord (s : State) (body : RecordBody) (mark : Bool) : State :=
  (s.modJournal fun j =>
    { j with
      records := j.records ++ [⟨j.next, body.ownClockInvalid || !s.clock.valid || mark, body⟩]
      next := j.next + 1 }).raise .journalNew

/-- A direct append into a free slot (R161). The caller has asked for the slot. -/
def State.appendDirect (s : State) (body : RecordBody) : State :=
  (s.pushRecord body false).noteFree s.journal.free

/-- A holder's reservation becomes its record (R159). A name that holds no slot writes nothing; no
transaction or receipt that ends in a record lacks its holder (R158; log 25). -/
def State.convertSlot (s : State) (k : Holder) (body : RecordBody) : State :=
  match s.journal.register.get k with
  | none => s
  | some mark =>
    (s.modJournal fun j => { j with register := j.register.put k none }).pushRecord body mark

/-- The latch and the cursor at power-on and after a panel restart (R162, R167). -/
def State.startJournal (s : State) : State :=
  let t := s.modJournal fun j => { j with highLatch := j.free ≤ 32, cursor := j.oldest }
  if t.journal.highLatch then t.raise .journalHigh else t

/-- Every record up to and including number `n` is released (R170), `n` lying in the run. -/
def State.releaseRecords (s : State) (n : Nat) : State :=
  (s.modJournal fun j =>
    { j with
      records := j.records.drop (n + 1 - j.oldest)
      oldest := n + 1
      cursor := max j.cursor (n + 1) }).noteFree s.journal.free

/-- The records READ_NEXT returns: up to three from the cursor upward (R168). -/
def Journal.nextRecords (j : Journal) : List JournalRecord :=
  (j.records.drop (j.cursor - j.oldest)).take 3

end Sys2Proof.Machine
end

