-- ==== Sys2Proof/Machine/HoseUnit.lean ====
section
/-! DEFINITION. The Hose Control Unit's shared operations (2.2 to 2.6): a slot's change of state with the
pump demand and events that follow it, the entries to PAUSED, READY, SLOWING and CLOSING, the volume
comparison, holds and metering exceptions. -/

namespace Sys2Proof.Machine

open Sys2Proof

/-- The compartment's slots in READY, FLOWING or SLOWING (R42). -/
def State.demandOf (s : State) (c : Comp) : Nat :=
  ((compHoses c).filter fun h => (s.slotState h).delivers).length

/-- Pump demand is recounted (R42): demand above 0 cancels run-on; a fall to 0 starts it with the setting
then in force, unless the pump is forced to stop (R43) or the setting is 0. -/
def State.recountDemand (s : State) (c : Comp) : State :=
  s.modPump c fun p =>
    { demand := s.demandOf c
      runOn :=
        if 0 < s.demandOf c then none
        else if 0 < p.demand ∧ s.drivesForced c = false then
          if s.depot.runOn = 0 then none else s.timer (1000 * s.depot.runOn)
        else p.runOn }

/-- The logoff timer at a change of a slot's state (R67): cancelled when a slot leaves IDLE, started when
the last active slot returns to IDLE with an operator logged on. `was` is the slot's state before. -/
def State.noteActivity (s : State) (was now : SlotState) : State :=
  if was = .idle ∧ now ≠ .idle then { s with logoffTimer := none }
  else if was ≠ .idle ∧ now = .idle ∧ s.allIdle ∧ s.operator.isSome then
    { s with logoffTimer := s.timer 1800000 }
  else s

/-- A slot takes a new state: demand is recounted, the logoff timer follows, HOSE_STATE is raised (R42,
R50, R67, R116). -/
def State.setSlotState (s : State) (h : Hose) (st : SlotState) : State :=
  ((((s.modSlot h fun x => { x with state := st }).recountDemand (hoseComp h)).noteActivity
    (s.slotState h) st)).raise (.hoseState h)

/-- Entry to CLOSING with an end cause, from READY, FLOWING, SLOWING or PAUSED; in any other state a closing
event leaves the slot as it is (R32). The settle timer starts, the other hose timers and the flow-sense and leak
windows end (R29, R30, R35, R46), presence tracking stops (R64), its miss count left as it stands (the model's
choice, log 42). -/
def State.enterClosing (s : State) (h : Hose) (cause : EndCause) : State :=
  if (s.slotState h).running then
    (((s.modSlot h fun x => { x with endCause := some cause }).modHoseCtl h fun c =>
        { c with
          flowStop := none, noFlow := none, pause := none, settle := s.timer 1500
          flowWindow := [], leakWindow := [] }).modTracking h fun k =>
        { k with running := false, restoreWindow := none }).setSlotState h .closing
  else s

/-- Entry to PAUSED (R34). -/
def State.enterPaused (s : State) (h : Hose) : State :=
  (s.modHoseCtl h fun c =>
    { c with noFlow := none, flowStop := none, flowWindow := [], pause := s.timer 300000 }).setSlotState
    h .paused

/-- Entry to SLOWING (R28, R29). -/
def State.enterSlowing (s : State) (h : Hose) : State :=
  (s.modHoseCtl h fun c => { c with flowStop := none, flowWindow := [] }).setSlotState h .slowing

/-- Net is at or above the close threshold, authorised − close-ahead (R28). -/
def State.atCloseThreshold (s : State) (h : Hose) : Bool :=
  (s.slots.get h).authorisedVolume ≤ (s.chan.get h).txn.net + (s.hoseCtl.get h).closeAhead

/-- Net is at or above the slow threshold, authorised − slow band (R28). -/
def State.atSlowThreshold (s : State) (h : Hose) : Bool :=
  (s.slots.get h).authorisedVolume ≤ (s.chan.get h).txn.net + (s.hoseCtl.get h).slowBand

/-- The comparison of net with the authorised volume (R28). -/
def State.compareVolume (s : State) (h : Hose) : State :=
  if (s.slotState h).delivers && s.atCloseThreshold h then s.enterClosing h .presetReached
  else if (s.slotState h == .ready || s.slotState h == .flowing) && s.atSlowThreshold h then
    s.enterSlowing h
  else s

/-- The return from PAUSED to READY (R35): the leak window is emptied and detection re-armed (R46). -/
def State.returnToReady (s : State) (h : Hose) : State :=
  ((s.modHoseCtl h fun c =>
    { c with
      pause := none, flowWindow := [], noFlow := s.timer 60000
      leakWindow := [], leakArmed := true }).setSlotState h .ready).compareVolume h

/-- A cause joins the hold set of a slot from READY to CLOSING (R34); added to an empty set in READY,
FLOWING or SLOWING it pauses the slot. -/
def State.addHold (s : State) (h : Hose) (k : HoldCause) : State :=
  if (s.slotState h).authorised then
    let t := s.modSlot h fun x => { x with holds := x.holds.put k true }
    if (s.slots.get h).holds.isEmpty && (s.slotState h).delivers then t.enterPaused h else t
  else s

/-- A cause leaves the hold set; the last one leaving a PAUSED slot's set returns it to READY (R35). -/
def State.removeHold (s : State) (h : Hose) (k : HoldCause) : State :=
  if (s.slots.get h).holds.has k then
    let t := s.modSlot h fun x => { x with holds := x.holds.put k false }
    if (t.slots.get h).holds.isEmpty && t.slotState h == .paused then t.returnToReady h else t
  else s

/-- A metering exception fills an absent record, or raises the further count of a present one up to 15
(R44). -/
def bumpException (code : MeterException) : Option ExceptionRecord → Option ExceptionRecord
  | none => some ⟨code, 0⟩
  | some r => some { r with further := min 15 (r.further + 1) }

/-- A metering exception acts on the pending exception and, while the channel is bound, on the
transaction exception; EXCEPTION is raised (R44). -/
def State.meterException (s : State) (h : Hose) (code : MeterException) : State :=
  (s.modHoseCtl h fun c =>
    { c with
      pendingException := bumpException code c.pendingException
      transactionException :=
        if (s.chan.get h).bound then bumpException code c.transactionException
        else c.transactionException }).raise (.exception h)

/-- A PULSE_PHASE or REVERSE_EXCESS report (R45): it also closes a slot from READY to PAUSED. -/
def State.meterReport (s : State) (h : Hose) (code : MeterException) : State :=
  (s.meterException h code).enterClosing h .meterException

/-- A taking joins a window of the latest three (R29, R46). -/
def pushTaking (window : List Nat) (t : Nat) : List Nat :=
  let w := window ++ [t]
  w.drop (w.length - 3)

/-- Three takings, the third within `ms` of the first (R29, R46; log 3). -/
def windowFull (window : List Nat) (ms : Nat) : Bool :=
  match window with
  | [a, _, c] => c ≤ a + ms
  | _ => false

end Sys2Proof.Machine
end

