-- ==== Sys2Proof/Machine/StockUnit.lean ====
section
/-! DEFINITION. The Stock Unit's operations (6.2 to 6.7): book stock, the dead-stock cut, restock notice
and re-arm, the gauge with its strapping, and the variance monitor. -/

namespace Sys2Proof.Machine

open Sys2Proof

/-! ### Cut, restock, re-arm -/

/-- The compartment's slots from READY to PAUSED go to CLOSING with DEAD_STOCK (R121). -/
def State.closeForCut (s : State) : Comp → State
  | .a => (s.enterClosing .h1 .deadStock).enterClosing .h2 .deadStock
  | .b => s.enterClosing .h3 .deadStock

/-- The cut flag is re-evaluated (R122). Setting it stops the pump with its run-on (R43) and closes the
compartment's transactions (R121); each change raises STOCK_CUT. -/
def State.evaluateCut (s : State) (c : Comp) : State :=
  let cut : Bool := (s.stock.get c).book ≤ s.cal.dead.get c
  if cut = (s.stock.get c).cut then s
  else
    let t := s.modStock c fun x => { x with cut := cut }
    (if cut then (t.modPump c fun p => { p with runOn := none }).closeForCut c else t).raise .stockCut

/-- The strapped capacity: the volume of the live table's last point (6.5). -/
def strappedCapacity (points : List StrapPoint) : Nat := (points.getLast?.map (·.gross)).getD 0

/-- The suggested volume of a restock notice (R128). -/
def State.suggestedVolume (s : State) (c : Comp) : Nat :=
  (((9 * strappedCapacity (s.cal.strapping.get c)) / 10 : Nat) - (s.stock.get c).book : Int).toNat

/-- The restock test (R128): armed, and available stock below the reorder level. -/
def State.restockTest (s : State) (c : Comp) : State :=
  if (s.stock.get c).armed && s.availableStock c < s.depot.reorder.get c then
    (s.modStock c fun x =>
      { x with armed := false, lastNotice := some ⟨s.suggestedVolume c, s.clock.counter⟩ }).raise
      .restockNeeded
  else s

/-- The restock test is made where available stock has fallen below what it was (R128). -/
def State.restockIfFell (s : State) (c : Comp) (before : Nat) : State :=
  if s.availableStock c < before then s.restockTest c else s

/-- The re-arm test (R129): disarmed, and book stock above the reorder level plus the hysteresis. -/
def State.rearmTest (s : State) (c : Comp) : State :=
  if !(s.stock.get c).armed
      && ((s.depot.reorder.get c + 5 * s.depot.reorder.get c / 100 : Nat) : Int) < (s.stock.get c).book then
    (s.modStock c fun x => { x with armed := true }).restockTest c
  else s

/-- A net increment debits book stock (R118), limited at −2^39; the dispensed counter gains the whole
increment. `before` is the available stock before the pulse. -/
def State.debitStock (s : State) (c : Comp) (n before : Nat) : State :=
  if n = 0 then s
  else
    ((s.modStock c fun x =>
      { x with
        book := max (-bookLimit) (x.book - n)
        dispensed := (x.dispensed + n) % counterModulus }).evaluateCut c).restockIfFell c before

/-- A receipt credit (R120): book stock and the credited counter gain it; then the cut flag, the re-arm
test, and the restock test where the credit lowered available stock (log 22). -/
def State.creditStock (s : State) (c : Comp) (credit : Int) : State :=
  (((s.modStock c fun x =>
    { x with
      book := clampInt (-bookLimit) bookLimit (x.book + credit)
      credited := ((x.credited + credit) % counterModulus).toNat }).evaluateCut c).rearmTest
    c).restockIfFell c (s.availableStock c)

/-! ### The gauge -/

/-- A tilt component beyond the limit (R124). -/
def tiltExceeds (v : BitVec 16) (limit : Nat) : Bool := limit < v.toInt.natAbs

/-- The tilt is beyond the limit: no reading, an expired reading-absence timer, or a component past the
tilt limit (R124). -/
def State.tiltBeyond (s : State) : Bool :=
  match s.tilt.reading with
  | none => true
  | some r => s.tilt.absenceTimer.isNone || tiltExceeds r.pitch s.cal.tiltLimit || tiltExceeds r.roll s.cal.tiltLimit

/-- The highest and lowest level of a history. -/
def highest (xs : List Nat) : Nat := xs.foldl max 0

def lowest : List Nat → Nat
  | [] => 0
  | x :: xs => xs.foldl min x

/-- The level history is too short or too wide for a stable gauge (R125, order 5). -/
def historyUnstable (xs : List Nat) : Bool := xs.length < 10 || 20 < highest xs - lowest xs

/-- The gauge state: the first of the table of R125 that holds. -/
def State.gaugeStateOf (s : State) (c : Comp) : GaugeState :=
  match (s.gauge.get c).latest with
  | none => .absent
  | some f =>
    if (s.gauge.get c).absenceTimer.isNone then .absent
    else if !f.ok then .fault
    else if s.switches.brakeReleased then .moving
    else if s.tiltBeyond then .tilted
    else if historyUnstable (s.gauge.get c).history then .unstable
    else .valid

/-- The qualification a receipt state asks for, in milliseconds (7.1). -/
def qualificationMs : ReceiptState → Option Nat
  | .opening => some 30000
  | .settling => some 120000
  | _ => none

/-- What a receipt does at the gauge's entry to VALID, or departure from it (R138, R147): nothing while
the supply is SAVED (R152). -/
def State.receiptGauge (s : State) (c : Comp) (entered : Bool) : State :=
  match s.isNormal, qualificationMs (s.receipts.get c).state with
  | true, some ms =>
    s.modReceipt c fun r => { r with qualification := if entered then s.timer ms else none }
  | _, _ => s

/-- The gauge state is re-evaluated (R125). Entry to VALID sets valid since and starts the 60-s valid
qualification; departure clears and cancels them; the Receipt Unit is told of both. -/
def State.reviewGauge (s : State) (c : Comp) : State :=
  let st := s.gaugeStateOf c
  let was := (s.gauge.get c).state
  if st = was then s
  else
    let t := s.modGauge c fun g => { g with state := st }
    (if st = .valid then
      (t.modGauge c fun g =>
        { g with validSince := some s.clock.counter, validQualification := s.timer 60000 }).receiptGauge c true
    else if was = .valid then
      (t.modGauge c fun g => { g with validSince := none, validQualification := none }).receiptGauge c false
    else t).raise (.gaugeState c)

/-- Both gauge states are re-evaluated. -/
def State.reviewGauges (s : State) : State := (s.reviewGauge .a).reviewGauge .b

/-- The volume between two points (R126): the proportional part rounded, halves up. -/
def interpolate (p q : StrapPoint) (level : Nat) : Nat :=
  p.gross + ((level - p.level) * (q.gross - p.gross) + (q.level - p.level) / 2) / (q.level - p.level)

/-- R126 from a point at or below the level onward. -/
def gaugeAlong : List StrapPoint → Nat → Nat × Bool
  | [], _ => (0, true)
  | [p], _ => (p.gross, true)
  | p :: q :: rest, level =>
    if level < q.level then (interpolate p q level, false) else gaugeAlong (q :: rest) level

/-- The gauge gross volume at a level, with the ABOVE_TABLE mark (R126). -/
def gaugeGross (points : List StrapPoint) (level : Nat) : Nat × Bool :=
  match points with
  | [] => (0, false)
  | p :: rest => if level < p.level then (p.gross, false) else gaugeAlong (p :: rest) level

/-- The gauge net volume, V − rounded(α × V × d / 10,000,000) (R127). -/
def gaugeNet (alpha v : Nat) (temp : Int) : Int := v - correction alpha (v * (temp - 150))

/-- The gauge reading of a frame (R126, R127). -/
def State.gaugeReading (s : State) (c : Comp) (f : GaugeFrame) : GaugeReading :=
  let v := gaugeGross (s.cal.strapping.get c) f.level
  { level := f.level, gross := v.1, net := gaugeNet (s.cal.alpha.get c) v.1 f.temp, temp := f.temp
    aboveTable := v.2, time := s.clock.counter }

/-- A frame taken in VALID updates the last valid gauge (R127). -/
def State.holdReading (s : State) (c : Comp) (f : GaugeFrame) : State :=
  if (s.gauge.get c).state = .valid then
    s.modGauge c fun g => { g with lastValid := some (s.gaugeReading c f) }
  else s

/-- A level joins the history of the latest ten (R123). -/
def pushLevel (history : List Nat) (level : Nat) : List Nat :=
  let w := history ++ [level]
  w.drop (w.length - 10)

/-! ### The variance monitor -/

/-- The four conditions of R130, and none is checked while the supply is SAVED. -/
def State.varianceDue (s : State) (c : Comp) : Bool :=
  s.isNormal && s.compIdle c && (s.receipts.get c).state == .closed
    && (s.gauge.get c).state == .valid && (s.gauge.get c).validQualification.isNone
    && (s.gauge.get c).spacing.isNone

/-- The tolerance of a check (R131). -/
def State.varianceTolerance (s : State) (c : Comp) : Nat :=
  s.cal.tolAbsolute + s.cal.tolPpm * (s.stock.get c).book.natAbs / 1000000

/-- A variance check where one is due (R130, R131): the spacing timer starts, the last check is stored,
and STOCK_VARIANCE raised when it is beyond tolerance. -/
def State.checkVariance (s : State) (c : Comp) : State :=
  match s.varianceDue c, (s.gauge.get c).lastValid with
  | true, some r =>
    let diff := r.net - (s.stock.get c).book
    let tol := s.varianceTolerance c
    let beyond : Bool := tol < diff.natAbs
    let t := s.modGauge c fun g =>
      { g with spacing := s.timer 600000, lastCheck := some ⟨diff, tol, beyond, s.clock.counter⟩ }
    if beyond then t.raise .stockVariance else t
  | _, _ => s

def State.checkVariances (s : State) : State := (s.checkVariance .a).checkVariance .b

end Sys2Proof.Machine
end

