-- ==== Sys2Proof/Machine/ReceiptUnit.lean ====
section
/-! DEFINITION. The Receipt Unit's shared operations (7.2 to 7.4): the entry to SETTLING, the end of a
fill, cancellation, the opening and closing snapshots and the close with its record. -/

namespace Sys2Proof.Machine

open Sys2Proof

/-- The qualification timer of a receipt state, started at once if the gauge is VALID (R137, R147, R191). -/
def State.qualificationNow (s : State) (c : Comp) (ms : Nat) : Timer :=
  if (s.gauge.get c).state = .valid then s.timer ms else none

/-- Entry to SETTLING (R147): the limit timer starts, the qualification timer too if the gauge is VALID;
RECEIPT_STATE is raised. -/
def State.enterSettling (s : State) (c : Comp) : State :=
  (s.modReceipt c fun r =>
    { r with
      state := .settling, limit := s.timer 900000
      qualification := s.qualificationNow c 120000 }).raise (.receiptState c)

/-- The end of a fill (R142): the fill end time is set and the receipt enters SETTLING. -/
def State.endFill (s : State) (c : Comp) : State :=
  (s.modReceipt c fun r => { r with fillEnd := some s.clock.counter }).enterSettling c

/-- A cancellation (R139): one event, with no record and no change of stock. -/
def State.cancelReceipt (s : State) (c : Comp) : State :=
  ((((s.releaseSlot (.receipt c)).modReceipt c fun r =>
    { r with
      state := .closed, outcome := some .cancelled, qualification := none, limit := none
      v0 := none, dispensed := none }).raise (.receiptState c))).checkVariance c

/-- A snapshot of the last valid gauge (7.1). -/
def State.snapshot (s : State) (c : Comp) : Option Snapshot :=
  (s.gauge.get c).lastValid.map fun r => ⟨r.net, r.level, r.aboveTable⟩

/-- The latest frame has status OK and a level at or above the high-high level (R138, R145). -/
def State.atHighHigh (s : State) (c : Comp) : Bool :=
  match (s.gauge.get c).latest with
  | some f => f.ok && s.cal.highHigh.get c ≤ f.level
  | none => false

/-- Every net increment of the compartment joins D while the receipt is FILLING or SETTLING (R141). -/
def State.countDispensed (s : State) (c : Comp) (n : Nat) : State :=
  match (s.receipts.get c).state with
  | .filling | .settling =>
    s.modReceipt c fun r => { r with dispensed := r.dispensed.map fun d => min maxVolume (d + n) }
  | _ => s

/-- The opening snapshot (R138): V0 is taken, D starts at 0, and the receipt enters FILLING, or SETTLING
when an overfill, high-high or emergency-stop condition stands. -/
def State.takeOpening (s : State) (c : Comp) : State :=
  let t := s.modReceipt c fun r =>
    { r with
      v0 := s.snapshot c, dispensed := some 0, limit := none, qualification := none
      fillStart := some s.clock.counter }
  if s.switches.overfill.get c || s.atHighHigh c then
    ((t.modReceipt c fun r => { r with overfillTrip := true }).endFill c).raise .overfill
  else if s.switches.estop then (t.modReceipt c fun r => { r with aborted := true }).endFill c
  else (t.modReceipt c fun r => { r with state := .filling }).raise (.receiptState c)

/-- The RECEIPT record (R150), composed with the book stock after the credit. -/
def State.composeReceipt (s : State) (c : Comp) : RecordBody :=
  let r := s.receipts.get c
  .receipt
    { comp := c, docket := r.docket.getD 0, declared := r.declared.getD 0, basis := r.basis.getD .docket
      v0 := r.v0, v1 := r.v1, dispensed := r.dispensed.getD 0, measured := r.measured
      variance := r.variance, credit := r.credit.getD 0, bookAfter := (s.stock.get c).book
      openTime := r.openTime.getD 0, fillStart := r.fillStart.getD 0, fillEnd := r.fillEnd.getD 0
      closeTime := r.closeTime.getD 0, overfillTrip := r.overfillTrip
      gaugeUnavailable := r.gaugeUnavailable, aborted := r.aborted }

/-- The close of a receipt with its credit (R148): stock, close time, record, CLOSED; then a variance
check where one falls due (R130). -/
def State.closeReceipt (s : State) (c : Comp) (credit : Int) : State :=
  let t := (s.creditStock c credit).modReceipt c fun r =>
    { r with credit := some credit, closeTime := some s.clock.counter, qualification := none, limit := none }
  (((t.convertSlot (.receipt c) (t.composeReceipt c)).modReceipt c fun r =>
    { r with state := .closed, outcome := some .credited }).raise (.receiptState c)).checkVariance c

/-- Measured, V1 − V0 + D (R147), where both snapshots are held. -/
def measuredOf (v0 v1 : Option Snapshot) (d : Option Nat) : Option Int :=
  match v0, v1 with
  | some a, some b => some (b.net - a.net + ((d.getD 0 : Nat) : Int))
  | _, _ => none

/-- The closing snapshot and the close (R147, R148). -/
def State.takeClosing (s : State) (c : Comp) : State :=
  let r := s.receipts.get c
  let v1 := s.snapshot c
  let measured := measuredOf r.v0 v1 r.dispensed
  let declared : Int := ((r.declared.getD 0 : Nat) : Int)
  let credit := match r.basis, measured with
    | some .gauge, some m => m
    | _, _ => declared
  (s.modReceipt c fun r =>
    { r with
      v1 := v1, measured := measured
      variance := measured.map (· - declared) }).closeReceipt c credit

/-- The close without a closing snapshot, on the declared volume (R149). -/
def State.closeUnavailable (s : State) (c : Comp) : State :=
  (s.modReceipt c fun r => { r with gaugeUnavailable := true }).closeReceipt c
    (((s.receipts.get c).declared.getD 0 : Nat) : Int)

/-- A saved receipt is continued (R191): FILLING becomes SETTLING with its fill end at the closure, and
the state's timers start afresh. -/
def State.continueReceipt (s : State) (c : Comp) (saved : Receipt) : State :=
  let t := s.modReceipt c fun _ => saved
  match saved.state with
  | .closed => s
  | .opening =>
    (t.modReceipt c fun r =>
      { r with limit := s.timer 600000, qualification := s.qualificationNow c 30000 }).raise
      (.receiptState c)
  | .filling => t.endFill c
  | .settling => t.enterSettling c

end Sys2Proof.Machine
end

