-- ==== Sys2Proof/Machine/FieldGauge.lean ====
section
/-! DEFINITION. Events of the level probes, the inclinometer, the variance monitor, the receipts' timers and
the overfill switches. -/

namespace Sys2Proof.Machine

open Sys2Proof

/-! ### Gauge (R123 to R127) -/

/-- A probe frame as the part takes it: level limited to 40,000, temperature clamped (R123). -/
def frameOfProbe (level : Nat) (temp : Int) (ok : Bool) : GaugeFrame :=
  { level := min 40000 level, temp := clampInt (-400) 600 temp, ok := ok }

/-- A frame joins the Gauge Record (R123). While the park brake is released no level is appended, so the history
that the release emptied is still empty when the brake is set, as R125 and the table of 6.4 have it: the model's
reading of R123 beside them (log 47). -/
def Gauge.takeFrame (g : Gauge) (f : GaugeFrame) (released : Bool) (absence : Timer) : Gauge :=
  { g with
    latest := some f, absenceTimer := absence
    history := if f.ok && !released then pushLevel g.history f.level else [] }

/-- The fill is ended with OVERFILL_TRIP (R144, R145). -/
def State.tripFill (s : State) (c : Comp) : State :=
  (s.modReceipt c fun r => { r with overfillTrip := true }).endFill c

/-- A frame at the high-high level trips a fill (R145); none is acted on while the supply is SAVED (R152). -/
def State.checkHighHigh (s : State) (c : Comp) : State :=
  if s.isNormal && (s.receipts.get c).state == .filling && s.atHighHigh c then (s.tripFill c).raise .overfill
  else s

/-- PROBE_FRAME (R123, R125, R127, R145). -/
def execProbeFrame (c : Comp) (level : Nat) (temp : Int) (ok : Bool) (s : State) :
    Host.Outcome State Fault Refusal :=
  let f := frameOfProbe level temp ok
  let t := s.modGauge c fun g => g.takeFrame f s.switches.brakeReleased (s.timer 5000)
  (((t.reviewGauge c).holdReading c f).checkHighHigh c).finish

/-- FRAME_ABSENCE_EXPIRY (R123): the history is emptied, the latest frame stays. -/
def execFrameAbsenceExpiry (c : Comp) (s : State) : Host.Outcome State Fault Refusal :=
  (if (s.gauge.get c).absenceTimer.isSome then
    (s.modGauge c fun g => { g with absenceTimer := none, history := [] }).reviewGauge c
  else s).finish

/-- INCLINOMETER_READING (R124). -/
def execInclinometerReading (pitch roll : BitVec 16) (s : State) : Host.Outcome State Fault Refusal :=
  ({ s with tilt := { reading := some ⟨pitch, roll⟩, absenceTimer := s.timer 2000 } }).reviewGauges.finish

/-- READING_ABSENCE_EXPIRY (R124). -/
def execReadingAbsenceExpiry (s : State) : Host.Outcome State Fault Refusal :=
  (if s.tilt.absenceTimer.isSome then
    ({ s with tilt := { s.tilt with absenceTimer := none } }).reviewGauges
  else s).finish

/-! ### Variance monitor (R130, R131) -/

/-- VALID_QUALIFICATION_EXPIRY. -/
def execValidQualificationExpiry (c : Comp) (s : State) : Host.Outcome State Fault Refusal :=
  (if (s.gauge.get c).validQualification.isSome then
    (s.modGauge c fun g => { g with validQualification := none }).checkVariance c
  else s).finish

/-- SPACING_TIMER_EXPIRY. -/
def execSpacingTimerExpiry (c : Comp) (s : State) : Host.Outcome State Fault Refusal :=
  (if (s.gauge.get c).spacing.isSome then (s.modGauge c fun g => { g with spacing := none }).checkVariance c
  else s).finish

/-! ### Receipt timers (R138, R139, R147, R149) -/

/-- A receipt is in a state with its qualification timer running. -/
def Receipt.qualifies (r : Receipt) (st : ReceiptState) : Bool := r.state == st && r.qualification.isSome

/-- A receipt is in a state with its limit timer running. -/
def Receipt.limited (r : Receipt) (st : ReceiptState) : Bool := r.state == st && r.limit.isSome

/-- OPENING_QUALIFICATION_EXPIRY (R138). -/
def execOpeningQualificationExpiry (c : Comp) (s : State) : Host.Outcome State Fault Refusal :=
  (if (s.receipts.get c).qualifies .opening then s.takeOpening c else s).finish

/-- OPENING_LIMIT_EXPIRY (R139). -/
def execOpeningLimitExpiry (c : Comp) (s : State) : Host.Outcome State Fault Refusal :=
  (if (s.receipts.get c).limited .opening then s.cancelReceipt c else s).finish

/-- SETTLING_QUALIFICATION_EXPIRY (R147, R148). -/
def execSettlingQualificationExpiry (c : Comp) (s : State) : Host.Outcome State Fault Refusal :=
  (if (s.receipts.get c).qualifies .settling then s.takeClosing c else s).finish

/-- SETTLING_LIMIT_EXPIRY (R149). -/
def execSettlingLimitExpiry (c : Comp) (s : State) : Host.Outcome State Fault Refusal :=
  (if (s.receipts.get c).limited .settling then s.closeUnavailable c else s).finish

/-! ### Overfill switches (R144) -/

def State.setOverfill (s : State) (c : Comp) (b : Bool) : State :=
  { s with switches := { s.switches with overfill := s.switches.overfill.set c b } }

/-- The Receipt Unit's part at an assertion (R144). -/
def State.overfillReceipt (s : State) (c : Comp) : State :=
  match (s.receipts.get c).state with
  | .filling => s.tripFill c
  | .settling => s.modReceipt c fun r => { r with overfillTrip := true }
  | _ => s

/-- OVERFILL_ASSERT; while the supply is SAVED it moves the level and raises the event alone (R152). -/
def execOverfillAssert (c : Comp) (s : State) : Host.Outcome State Fault Refusal :=
  (if s.switches.overfill.get c then s
  else
    let t := (s.setOverfill c true).raise .overfill
    if s.isNormal then t.overfillReceipt c else t).finish

/-- OVERFILL_RELEASE lifts the forcing and raises nothing (R144). -/
def execOverfillRelease (c : Comp) (s : State) : Host.Outcome State Fault Refusal := (s.setOverfill c false).finish

end Sys2Proof.Machine
end

