-- ==== Sys2Proof/Decode.lean ====
section
/-! DEFINITION. Reading commands from words and from frames. spec/opcode_table.json gives its rows no
bits, so no table word spells a command. The frames of R195 and R202 do: a command code, a length
byte and a payload. `decodeFrame` makes checks 1 and 2 of R195 and reads the payload; `encodeFrame`
writes the frame of a port command from the same table. -/

namespace Sys2Proof

/-- The command an opcode-table word spells. The table gives no row any bits (log 6). -/
def decodeTableWord (_nbits _w : Nat) : Option Instr := none

/-! ### Multi-byte fields: most significant byte first (11.5) -/

def word2 (a b : Byte) : BitVec 16 := a ++ b

def word3 (a b c : Byte) : BitVec 24 := a ++ b ++ c

def word4 (a b c d : Byte) : BitVec 32 := a ++ b ++ c ++ d

def bytes2 (v : BitVec 16) : List Byte := [v.extractLsb' 8 8, v.extractLsb' 0 8]

def bytes3 (v : BitVec 24) : List Byte := [v.extractLsb' 16 8, v.extractLsb' 8 8, v.extractLsb' 0 8]

def bytes4 (v : BitVec 32) : List Byte :=
  [v.extractLsb' 24 8, v.extractLsb' 16 8, v.extractLsb' 8 8, v.extractLsb' 0 8]

/-! ### Payloads -/

/-- One roster entry and the bytes after it (11.5, roster entry table). -/
def readEntry : List Byte → Option (WireEntry × List Byte)
  | b0 :: b1 :: b2 :: b3 :: b4 :: b5 :: b6 :: b7 :: b8 :: b9 :: b10 :: b11 :: b12 :: b13 :: b14 :: b15
      :: b16 :: b17 :: b18 :: b19 :: b20 :: b21 :: b22 :: rest =>
    some (⟨word3 b0 b1 b2, b3, b4, word3 b5 b6 b7, word4 b8 b9 b10 b11, word4 b12 b13 b14 b15, b16,
      word3 b17 b18 b19, word3 b20 b21 b22⟩, rest)
  | _ => none

/-- Exactly `n` roster entries and nothing after them. -/
def readEntries : Nat → List Byte → Option (List WireEntry)
  | 0, [] => some []
  | 0, _ :: _ => none
  | n + 1, bytes =>
    match readEntry bytes with
    | none => none
    | some (e, rest) => (readEntries n rest).map (e :: ·)

/-- Exactly `n` strapping points and nothing after them. -/
def readPoints : Nat → List Byte → Option (List WirePoint)
  | 0, [] => some []
  | 0, _ :: _ => none
  | n + 1, a :: b :: c :: d :: e :: f :: rest =>
    (readPoints n rest).map (⟨word2 a b, word4 c d e f⟩ :: ·)
  | _ + 1, _ => none

/-- LOAD_ROSTER's payload. A count outside 1 to 4 is left to R76 whatever the length (R195). -/
def readLoadRoster (p : Port) : List Byte → Option Instr
  | [] => none
  | count :: rest =>
    if 1 ≤ count.toNat ∧ count.toNat ≤ 4 then
      (readEntries count.toNat rest).map (Instr.loadRoster p count)
    else some (.loadRoster p count [])

/-- CAL_STRAP_LOAD's payload. A count outside 1 to 8 is left to R180 whatever the length (R202). -/
def readStrapLoad (p : Port) : List Byte → Option Instr
  | comp :: start :: count :: rest =>
    if 1 ≤ count.toNat ∧ count.toNat ≤ 8 then
      (readPoints count.toNat rest).map (Instr.calStrapLoad p comp start count)
    else some (.calStrapLoad p comp start count [])
  | _ => none

/-- The command with a given code and payload (R202). The outer option is absent when the code names
no command, the inner one when the payload's length is not the one the layout requires. -/
def readCommand (p : Port) (code : Byte) (payload : List Byte) : Option (Option Instr) :=
  match code.toNat with
  | 0x01 => some (match payload with | [] => some (.readStatus p) | _ => none)
  | 0x02 => some (match payload with | [] => some (.readStock p) | _ => none)
  | 0x03 => some (match payload with | [] => some (.readEvents p) | _ => none)
  | 0x04 => some (match payload with | [a, b] => some (.setEventMask p (word2 a b)) | _ => none)
  | 0x10 => some (match payload with | [h, m, a, b, c] => some (.identify p h m (word3 a b c)) | _ => none)
  | 0x11 => some (match payload with | [h, k, a, b] => some (.setPreset p h k (word2 a b)) | _ => none)
  | 0x12 => some (match payload with | [h, a, b, c] => some (.enterHours p h (word3 a b c)) | _ => none)
  | 0x13 => some (match payload with | [h] => some (.hold p h) | _ => none)
  | 0x14 => some (match payload with | [h] => some (.resume p h) | _ => none)
  | 0x15 => some (match payload with | [h] => some (.stop p h) | _ => none)
  | 0x16 => some (match payload with | [h] => some (.ackException p h) | _ => none)
  | 0x17 => some (match payload with | [h] => some (.readHose p h) | _ => none)
  | 0x18 => some (match payload with | [] => some (.logoff p) | _ => none)
  | 0x19 => some (match payload with | [] => some (.restart p) | _ => none)
  | 0x20 => some (readLoadRoster p payload)
  | 0x21 => some (match payload with | [a, b, c] => some (.notOnRoster p (word3 a b c)) | _ => none)
  | 0x22 => some (match payload with | [a, b, c] => some (.dropRoster p (word3 a b c)) | _ => none)
  | 0x23 => some (match payload with | [k, a, b, c] => some (.setQuickCode p k (word3 a b c)) | _ => none)
  | 0x24 => some (match payload with | [k, a, b, c] => some (.setPrice p k (word3 a b c)) | _ => none)
  | 0x25 => some (match payload with
    | [i, a, b, c, d, e, f, g, h] => some (.setAccount p i (word4 a b c d) (word4 e f g h)) | _ => none)
  | 0x26 => some (match payload with | [i] => some (.readAccounts p i) | _ => none)
  | 0x27 => some (match payload with | [i] => some (.resetPeriod p i) | _ => none)
  | 0x28 => some (match payload with | [] => some (.readNext p) | _ => none)
  | 0x29 => some (match payload with | [a, b, c, d] => some (.readFrom p (word4 a b c d)) | _ => none)
  | 0x2A => some (match payload with | [a, b, c, d] => some (.collected p (word4 a b c d)) | _ => none)
  | 0x2B => some (match payload with
    | [k, a, b, c, d, r] => some (.adjustStock p k (word4 a b c d) r) | _ => none)
  | 0x2C => some (match payload with | [a, b, c, d] => some (.setClock p (word4 a b c d)) | _ => none)
  | 0x2D => some (match payload with
    | [hr, a, b, c, k, q] => some (.setSite p hr (word3 a b c) k q) | _ => none)
  | 0x30 => some (match payload with
    | [k, a, b, c, d, e, f, g, h] => some (.openReceipt p k (word4 a b c d) (word4 e f g h)) | _ => none)
  | 0x31 => some (match payload with | [k] => some (.closeReceipt p k) | _ => none)
  | 0x32 => some (match payload with | [k] => some (.abortReceipt p k) | _ => none)
  | 0x33 => some (match payload with | [k] => some (.readReceipt p k) | _ => none)
  | 0x34 => some (match payload with | [k] => some (.readGauge p k) | _ => none)
  | 0x35 => some (match payload with
    | [a, b, c, d, e, f, g, h, i, j, k, l, m, n] =>
      some (.setDepot p (word4 a b c d) (word4 e f g h) i j (word2 k l) m n) | _ => none)
  | 0x36 => some (match payload with | [h, a, b] => some (.calSetKq p h (word2 a b)) | _ => none)
  | 0x37 => some (match payload with | [k, a, b] => some (.calSetAlpha p k (word2 a b)) | _ => none)
  | 0x38 => some (match payload with
    | [k, a, b, c, d] => some (.calSetDeadStock p k (word4 a b c d)) | _ => none)
  | 0x39 => some (match payload with | [k, a, b] => some (.calSetHighHigh p k (word2 a b)) | _ => none)
  | 0x3A => some (match payload with | [a, b] => some (.calSetTilt p (word2 a b)) | _ => none)
  | 0x3B => some (match payload with
    | [a, b, c, d, e, f, g, h] => some (.calSetTolerance p (word4 a b c d) (word4 e f g h)) | _ => none)
  | 0x3C => some (readStrapLoad p payload)
  | 0x3D => some (match payload with | [k] => some (.calStrapCommit p k) | _ => none)
  | 0x3E => some (match payload with | [k, c, i] => some (.readCal p k c i) | _ => none)
  | _ => none

/-- What checks 1 and 2 of R195 make of the bytes after a WRITE's transfer type. -/
inductive FrameVerdict where
  | badFrame
  | unknownCode
  | command (c : Instr)
  deriving DecidableEq, Repr

/-- R195: at least two bytes, a length of at most 240 with that many payload bytes behind it, a code
that names a command, and the length its layout requires. Bytes beyond the stated length are
ignored. A length that the layout does not require is a BAD_FRAME; a code without a layout is
UNKNOWN_COMMAND. -/
def decodeFrame (p : Port) : List Byte → FrameVerdict
  | code :: len :: rest =>
    if len.toNat > 240 ∨ rest.length < len.toNat then .badFrame
    else
      match readCommand p code (rest.take len.toNat) with
      | none => .unknownCode
      | some none => .badFrame
      | some (some c) => .command c
  | _ => .badFrame

/-- The port a port command arrives on. -/
def commandPort : Instr → Option Port
  | .identify p _ _ _ | .setPreset p _ _ _ | .enterHours p _ _ | .hold p _ | .resume p _ | .stop p _
  | .ackException p _ | .readHose p _ | .logoff p | .restart p | .loadRoster p _ _ | .notOnRoster p _
  | .dropRoster p _ | .setQuickCode p _ _ | .setPrice p _ _ | .setAccount p _ _ _ | .readAccounts p _
  | .resetPeriod p _ | .readNext p | .readFrom p _ | .collected p _ | .adjustStock p _ _ _
  | .setClock p _ | .setSite p _ _ _ _ | .openReceipt p _ _ _ | .closeReceipt p _ | .abortReceipt p _
  | .readReceipt p _ | .readGauge p _ | .setDepot p _ _ _ _ _ _ _ | .calSetKq p _ _
  | .calSetAlpha p _ _ | .calSetDeadStock p _ _ | .calSetHighHigh p _ _ | .calSetTilt p _
  | .calSetTolerance p _ _ | .calStrapCommit p _ | .calStrapLoad p _ _ _ _ | .readCal p _ _ _
  | .readStatus p | .readStock p | .readEvents p | .setEventMask p _ => some p
  | _ => none

def entryBytes (e : WireEntry) : List Byte :=
  bytes3 e.machine ++ [e.account, e.permissions] ++ bytes3 e.perFill ++ bytes4 e.daily
    ++ bytes4 e.usedElsewhere ++ [e.flags] ++ bytes3 e.lastHours ++ bytes3 e.maxJump

def pointBytes (q : WirePoint) : List Byte := bytes2 q.level ++ bytes4 q.gross

/-- A frame from its code and payload. -/
def frameOf (code : Nat) (payload : List Byte) : List Byte :=
  BitVec.ofNat 8 code :: BitVec.ofNat 8 payload.length :: payload

/-- The frame of a port command, written from the command table of R202; absent for the rows that are
no port command. -/
def encodeFrame : Instr → Option (List Byte)
  | .readStatus _ => some (frameOf 0x01 [])
  | .readStock _ => some (frameOf 0x02 [])
  | .readEvents _ => some (frameOf 0x03 [])
  | .setEventMask _ m => some (frameOf 0x04 (bytes2 m))
  | .identify _ h m n => some (frameOf 0x10 ([h, m] ++ bytes3 n))
  | .setPreset _ h k l => some (frameOf 0x11 ([h, k] ++ bytes2 l))
  | .enterHours _ h v => some (frameOf 0x12 ([h] ++ bytes3 v))
  | .hold _ h => some (frameOf 0x13 [h])
  | .resume _ h => some (frameOf 0x14 [h])
  | .stop _ h => some (frameOf 0x15 [h])
  | .ackException _ h => some (frameOf 0x16 [h])
  | .readHose _ h => some (frameOf 0x17 [h])
  | .logoff _ => some (frameOf 0x18 [])
  | .restart _ => some (frameOf 0x19 [])
  | .loadRoster _ k es => some (frameOf 0x20 (k :: es.flatMap entryBytes))
  | .notOnRoster _ m => some (frameOf 0x21 (bytes3 m))
  | .dropRoster _ m => some (frameOf 0x22 (bytes3 m))
  | .setQuickCode _ k m => some (frameOf 0x23 (k :: bytes3 m))
  | .setPrice _ k v => some (frameOf 0x24 (k :: bytes3 v))
  | .setAccount _ i k c => some (frameOf 0x25 (i :: (bytes4 k ++ bytes4 c)))
  | .readAccounts _ i => some (frameOf 0x26 [i])
  | .resetPeriod _ i => some (frameOf 0x27 [i])
  | .readNext _ => some (frameOf 0x28 [])
  | .readFrom _ n => some (frameOf 0x29 (bytes4 n))
  | .collected _ n => some (frameOf 0x2A (bytes4 n))
  | .adjustStock _ k d r => some (frameOf 0x2B (k :: (bytes4 d ++ [r])))
  | .setClock _ t => some (frameOf 0x2C (bytes4 t))
  | .setSite _ hr c k q => some (frameOf 0x2D (hr :: (bytes3 c ++ [k, q])))
  | .openReceipt _ k d v => some (frameOf 0x30 (k :: (bytes4 d ++ bytes4 v)))
  | .closeReceipt _ k => some (frameOf 0x31 [k])
  | .abortReceipt _ k => some (frameOf 0x32 [k])
  | .readReceipt _ k => some (frameOf 0x33 [k])
  | .readGauge _ k => some (frameOf 0x34 [k])
  | .setDepot _ ra rb ba bb sb ca ro =>
    some (frameOf 0x35 (bytes4 ra ++ bytes4 rb ++ [ba, bb] ++ bytes2 sb ++ [ca, ro]))
  | .calSetKq _ h v => some (frameOf 0x36 (h :: bytes2 v))
  | .calSetAlpha _ k v => some (frameOf 0x37 (k :: bytes2 v))
  | .calSetDeadStock _ k v => some (frameOf 0x38 (k :: bytes4 v))
  | .calSetHighHigh _ k v => some (frameOf 0x39 (k :: bytes2 v))
  | .calSetTilt _ v => some (frameOf 0x3A (bytes2 v))
  | .calSetTolerance _ a q => some (frameOf 0x3B (bytes4 a ++ bytes4 q))
  | .calStrapCommit _ k => some (frameOf 0x3D [k])
  | .calStrapLoad _ k st n qs => some (frameOf 0x3C ([k, st, n] ++ qs.flatMap pointBytes))
  | .readCal _ k c i => some (frameOf 0x3E [k, c, i])
  | _ => none

end Sys2Proof
end

