-- ==== Sys2Proof/Machine/RosterUnit.lean ====
section
/-! DEFINITION. The Roster Unit's operations (4.2 to 4.9): the cache with its replacement, entries and
pins, requests, day usage, accounts and the site day. -/

namespace Sys2Proof.Machine

open Sys2Proof

/-! ### The cache -/

/-- The set of a machine: its machine number mod 16 (R71). -/
def machineSet (m : Nat) : Fin 16 := ⟨m % 16, Nat.mod_lt m (by decide)⟩

def allWays : List (Fin 4) := [0, 1, 2, 3]

def Roster.entryAt (r : Roster) (w : WayRef) : Option Entry := (r.cache.get w.setIx).ways.get w.way

def CacheSet.putWay (c : CacheSet) (w : Fin 4) (e : Option Entry) : CacheSet :=
  { c with ways := c.ways.set w.val e w.isLt }

def Roster.modSet (r : Roster) (i : Fin 16) (f : CacheSet → CacheSet) : Roster :=
  { r with cache := r.cache.set i.val (f (r.cache.get i)) i.isLt }

def Roster.putEntry (r : Roster) (w : WayRef) (e : Option Entry) : Roster :=
  r.modSet w.setIx fun c => c.putWay w.way e

/-- Whether a way holds the machine's entry. -/
def holdsMachine (m : Nat) : Option Entry → Bool
  | some e => e.body.machine == m
  | none => false

/-- The way that holds the machine, in its set (R71). -/
def Roster.findWay (r : Roster) (m : Nat) : Option WayRef :=
  (allWays.find? fun w => holdsMachine m ((r.cache.get (machineSet m)).ways.get w)).map fun w =>
    ⟨machineSet m, w⟩

/-- R73: a hit on a way, or a fill of it, sets the bits to point away from it. -/
def CacheSet.touch (c : CacheSet) (w : Fin 4) : CacheSet :=
  match w with
  | 0 => { c with bit0 := true, bit1 := true }
  | 1 => { c with bit0 := true, bit1 := false }
  | 2 => { c with bit0 := false, bit2 := true }
  | 3 => { c with bit0 := false, bit2 := false }

def Roster.touch (r : Roster) (w : WayRef) : Roster := r.modSet w.setIx fun c => c.touch w.way

/-- A way whose entry has a non-zero pin count. -/
def CacheSet.pinnedWay (c : CacheSet) (w : Fin 4) : Bool :=
  match c.ways.get w with
  | some e => 0 < e.pins
  | none => false

/-- The way a half's bit points at: bit 1 within ways 0 and 1, bit 2 within ways 2 and 3 (R73). -/
def CacheSet.pointed (c : CacheSet) (upper : Bool) : Fin 4 :=
  if upper then (if c.bit2 then 3 else 2) else (if c.bit1 then 1 else 0)

/-- The other way of a pair. -/
def sibling (w : Fin 4) : Fin 4 :=
  match w with
  | 0 => 1
  | 1 => 0
  | 2 => 3
  | 3 => 2

/-- The way the walk of R74 takes when every way is valid. -/
def CacheSet.walk (c : CacheSet) : Fin 4 :=
  let first := c.pointed c.bit0
  let other := c.pointed !c.bit0
  if !c.pinnedWay first then first
  else if !c.pinnedWay (sibling first) then sibling first
  else if !c.pinnedWay other then other
  else sibling other

/-- The victim way of a set (R74): the lowest-numbered invalid way, else the walk's. -/
def CacheSet.victim (c : CacheSet) : Fin 4 :=
  match allWays.find? fun w => (c.ways.get w).isNone with
  | some w => w
  | none => c.walk

/-! ### Day usage -/

/-- The machine's Day Usage List entry (R86). -/
def Roster.usageOf (r : Roster) (m : Nat) : Option UsageEntry := r.usage.find? fun u => u.machine == m

/-- The machine's charged today, 0 where it has no entry (R86). -/
def Roster.chargedToday (r : Roster) (m : Nat) : Nat := ((r.usageOf m).map (·.charged)).getD 0

/-- The list holds 128 entries (R86). -/
def Roster.usageFull (r : Roster) : Bool := 128 ≤ r.usage.length

/-- An entry inserted in machine-number order (R86). -/
def insertUsage (u : UsageEntry) : List UsageEntry → List UsageEntry
  | [] => [u]
  | x :: xs => if u.machine < x.machine then u :: x :: xs else x :: insertUsage u xs

def Roster.modUsage (r : Roster) (m : Nat) (f : UsageEntry → UsageEntry) : Roster :=
  { r with usage := r.usage.map fun u => if u.machine = m then f u else u }

/-- The machine's entry is used or inserted, or USAGE_FULL raised, at entry to READY (R86). -/
def State.useUsage (s : State) (m : Nat) : State :=
  if (s.roster.usageOf m).isSome then s
  else if s.roster.usageFull then s.raise .usageFull
  else s.modRoster fun r => { r with usage := insertUsage ⟨m, 0, 0, none⟩ r.usage }

/-! ### Writing entries -/

/-- R75: a daily allowance below charged today plus used elsewhere is stored as that sum. -/
def Roster.checkedBody (r : Roster) (b : EntryBody) : EntryBody :=
  { b with daily := b.daily.map fun d => max d (r.chargedToday b.machine + b.usedElsewhere) }

/-- An entry filled into a victim way (R74, R75), with the bits updated (R73). -/
def Roster.fill (r : Roster) (b : EntryBody) (origin : Origin) : Roster :=
  let w : WayRef := ⟨machineSet b.machine, (r.cache.get (machineSet b.machine)).victim⟩
  (r.putEntry w (some ⟨r.checkedBody b, origin, 0, none⟩)).touch w

/-- One entry of LOAD_ROSTER applied (R76): replaced in place, staged where pinned (R77), or filled. -/
def Roster.load (r : Roster) (b : EntryBody) : Roster :=
  match r.findWay b.machine with
  | none => r.fill b .roster
  | some w =>
    match r.entryAt w with
    | none => r
    | some e =>
      if e.pins = 0 then (r.putEntry w (some ⟨r.checkedBody b, .roster, 0, none⟩)).touch w
      else r.putEntry w (some { e with pendingUpdate := some (.replace b) })

/-- The machine's entry is invalidated, or DROP staged where it is pinned (R79). -/
def Roster.dropMachine (r : Roster) (m : Nat) : Roster :=
  match r.findWay m with
  | none => r
  | some w =>
    match r.entryAt w with
    | none => r
    | some e =>
      if e.pins = 0 then r.putEntry w none
      else r.putEntry w (some { e with pendingUpdate := some .drop })

/-- Giving an entry to a slot pins it (R72). -/
def Roster.pin (r : Roster) (w : WayRef) : Roster :=
  match r.entryAt w with
  | none => r
  | some e => r.putEntry w (some { e with pins := e.pins + 1 })

/-- The entry left when its pin count falls to zero (R72, R84): a pending replacement written under R75,
nothing after a DROP, nothing of a provisional entry, else the entry as it is. -/
def Roster.settled (r : Roster) (e : Entry) : Option Entry :=
  match e.pendingUpdate with
  | some (.replace b) => some ⟨r.checkedBody b, .roster, 0, none⟩
  | some .drop => none
  | none =>
    match e.origin with
    | .provisional => none
    | .roster => some { e with pins := 0 }

/-- A reference is released: the pin count falls by one, and at zero the entry settles (R72). -/
def Roster.unpin (r : Roster) (w : WayRef) : Roster :=
  match r.entryAt w with
  | none => r
  | some e =>
    if e.pins ≤ 1 then r.putEntry w (r.settled e)
    else r.putEntry w (some { e with pins := e.pins - 1 })

/-- The entry a slot references (5.1). -/
def State.slotEntry (s : State) (h : Hose) : Option Entry :=
  (s.slots.get h).entry.bind s.roster.entryAt

/-- The slot's pin is released (R72). -/
def State.releaseEntry (s : State) (w : Option WayRef) : State :=
  match w with
  | none => s
  | some w => s.modRoster fun r => r.unpin w

/-- The provisional entry of R82 for a machine. -/
def provisionalBody (site : SiteSettings) (m : Nat) : EntryBody where
  machine := m
  account := site.offlineAccount
  permitsA := true
  permitsB := true
  perFill := some site.offlineCap
  daily := some site.offlineCap
  usedElsewhere := 0
  barred := false
  hoursRequired := false
  manualAllowed := false
  neckCheck := false
  lastHours := none
  maxJump := 20000

/-! ### Requests (4.4) -/

/-- No slot waits on the request. -/
def RosterRequest.idle (q : RosterRequest) : Bool := !q.waiters.h1 && !q.waiters.h2 && !q.waiters.h3

/-- A slot joins the machine's request, or a new request is made, making room by removing the oldest
without waiters where three stand (R80). -/
def State.requestMachine (s : State) (h : Hose) (m : Nat) : State :=
  if s.roster.requests.any fun q => q.machine == m then
    s.modRoster fun r =>
      { r with
        requests := r.requests.map fun q =>
          if q.machine = m then { q with waiters := q.waiters.set h true } else q }
  else
    (s.modRoster fun r =>
      { r with
        requests :=
          (if 3 ≤ r.requests.length then r.requests.eraseP (·.idle) else r.requests)
            ++ [⟨m, (PerHose.all false).set h true, s.timer 8000⟩] }).raise .rosterRequest

/-- A slot leaves the waiting-slot set of its request (R80). -/
def Roster.leaveRequests (r : Roster) (h : Hose) : Roster :=
  { r with requests := r.requests.map fun q => { q with waiters := q.waiters.set h false } }

/-- The machine's request (R80). -/
def Roster.requestOf (r : Roster) (m : Nat) : Option RosterRequest :=
  r.requests.find? fun q => q.machine == m

/-- The machine's request leaves the list, its wait timer with it (R78, R79, R81). -/
def Roster.removeRequest (r : Roster) (m : Nat) : Roster :=
  { r with requests := r.requests.eraseP fun q => q.machine == m }

/-- The slot waits on the machine's request (R80). -/
def Roster.waitsOn (r : Roster) (m : Nat) (h : Hose) : Bool :=
  match r.requestOf m with
  | some q => q.waiters.get h
  | none => false

/-! ### Charges and accounts (4.7, 4.8) -/

def Roster.modAccount (r : Roster) (i : Fin 32) (f : Account → Account) : Roster :=
  { r with accounts := r.accounts.set i.val (f (r.accounts.get i)) i.isLt }

/-- The charge of a completion (R87): the day figures while the site day stands, the period totals always,
each stopping at its maximum. -/
def Roster.charge (r : Roster) (m : Nat) (i : Fin 32) (day charge net amount : Nat) : Roster :=
  let r' :=
    if r.stamp = day then
      (r.modUsage m fun u =>
        { u with charged := u.charged + charge, transactions := min 255 (u.transactions + 1) }).modAccount i
        fun a => { a with dayCharged := a.dayCharged + charge }
    else r
  r'.modAccount i fun a =>
    { a with
      periodNet := min 99999999999 (a.periodNet + net)
      periodAmount := min 999999999999 (a.periodAmount + amount)
      periodCount := min 4294967295 (a.periodCount + 1) }

/-- The last hours kept after plausible hours `h`: `h`, unless a greater value stands (R63). -/
def laterHours (last : Option Nat) (h : Nat) : Option Nat :=
  match last with
  | none => some h
  | some x => some (max x h)

/-- Plausible engine hours update the referenced roster entry and the machine's Day Usage List entry
(R63). -/
def Roster.updateHours (r : Roster) (w : Option WayRef) (m h : Nat) : Roster :=
  let r' :=
    match w with
    | none => r
    | some w =>
      match r.entryAt w with
      | none => r
      | some e => r.putEntry w (some { e with body := { e.body with lastHours := laterHours e.body.lastHours h } })
  r'.modUsage m fun u => { u with lastHours := laterHours u.lastHours h }

/-! ### The site day (4.9) -/

/-- The site day of a time (R90). -/
def siteDay (t hour : Nat) : Nat := (t + 86400 - 3600 * hour) / 86400

def clearUsedElsewhere (e : Entry) : Entry :=
  { e with
    body := { e.body with usedElsewhere := 0 }
    pendingUpdate :=
      match e.pendingUpdate with
      | some (.replace b) => some (.replace { b with usedElsewhere := 0 })
      | other => other }

/-- What a rollover clears and sets in the Roster Unit (R91). -/
def Roster.rollover (r : Roster) (day : Nat) : Roster :=
  { r with
    usage := []
    accounts := r.accounts.map fun a => { a with dayCharged := 0 }
    cache := r.cache.map fun c => { c with ways := c.ways.map fun e => e.map clearUsedElsewhere }
    stamp := day }

/-- The rollover check (R91). -/
def State.checkRollover (s : State) : State :=
  let day := siteDay s.clock.counter s.roster.site.boundaryHour
  if s.clock.valid && s.roster.stamp < day then (s.modRoster fun r => r.rollover day).raise .dayRollover
  else s

end Sys2Proof.Machine
end

