-- ==== Sys2Proof/Machine/TransactionUnit.lean ====
section
/-! DEFINITION. The Transaction Unit's shared operations (5.2 to 5.6): the refusal checks and candidates,
the taking of an authorisation, refusal, identification and lookup, the supervisor's override,
abandonment and completion. -/

namespace Sys2Proof.Machine

open Sys2Proof

/-! ### The refusal checks (R101) -/

/-- The misfuel check of R60 fails. -/
def misfuel (b : EntryBody) (inlet : Option Nat) (h : Hose) : Bool :=
  match inlet with
  | none => false
  | some code => b.neckCheck && code != 0 && code != productCode (hoseComp h)

def EntryBody.permits (b : EntryBody) : Comp → Bool
  | .a => b.permitsA
  | .b => b.permitsB

/-- Check 10 fails: a manual method, no MANUAL_ALLOWED, and the supervisor window closed (R68). -/
def State.manualRefused (s : State) (h : Hose) (b : EntryBody) : Bool :=
  ((s.slots.get h).method == some .quickCode || (s.slots.get h).method == some .typed)
    && !b.manualAllowed && s.supervisor.isNone

/-- The hoses other than `h` whose slots hold an active transaction. -/
def State.otherActive (s : State) (h : Hose) : List Hose :=
  allHoses.filter fun k => k != h && (s.slotState k).authorised

/-- Check 11 fails: another active transaction on the compartment has the slot's machine. -/
def State.machineBusy (s : State) (h : Hose) : Bool :=
  (s.otherActive h).any fun k =>
    hoseComp k == hoseComp h && (s.slots.get k).machine == (s.slots.get h).machine

/-- The twelve checks of R101 in order, each with whether it fails. -/
def State.refusalChecks (s : State) (h : Hose) (b : EntryBody) : List (Bool × RefusalReason) :=
  [(b.barred, .barred),
   (!b.permits (hoseComp h), .productNotPermitted),
   (misfuel b (s.slots.get h).inlet h, .misfuel),
   ((s.receipts.get (hoseComp h)).state != .closed, .receiving),
   ((s.stock.get (hoseComp h)).cut, .deadStock),
   ((s.hoseCtl.get h).pendingException.isSome, .exceptionPending),
   (s.switches.brakeReleased, .motion),
   (s.switches.estop, .estop),
   (s.roster.site.operatorRequired && s.operator.isNone, .noOperator),
   (s.manualRefused h b, .manualNotPermitted),
   (s.machineBusy h, .machineBusy),
   (s.journal.free == 0, .journalFull)]

/-- The reason of the first check that fails. -/
def firstFailing (checks : List (Bool × RefusalReason)) : Option RefusalReason :=
  (checks.find? (·.1)).map (·.2)

/-! ### Flags of the attempt (R62, R106) -/

/-- The reference of R62: the hours of the Day Usage List entry, else the roster entry's. -/
def Roster.hoursReference (r : Roster) (b : EntryBody) : Option Nat :=
  match (r.usageOf b.machine).bind (·.lastHours) with
  | some v => some v
  | none => b.lastHours

/-- Hours are implausible against a reference and a maximum jump (R62). -/
def implausible (reference : Option Nat) (jump h : Nat) : Bool :=
  match reference with
  | none => false
  | some r => h < r || r + jump < h

/-- The flag set an attempt makes (R106). -/
def State.attemptFlags (s : State) (h : Hose) (e : Entry) : SlotFlags :=
  { SlotFlags.none with
    provisional := e.origin == .provisional
    hoursImplausible :=
      match (s.slots.get h).hours with
      | none => false
      | some v => implausible (s.roster.hoursReference e.body) e.body.maxJump v.hours
    allowanceUntracked := (s.roster.usageOf e.body.machine).isNone && s.roster.usageFull
    calMode := s.switches.calEnable
    clockInvalid := !s.clock.valid }

/-! ### The candidates (R102, R103) -/

/-- The reserved remainders of the machine's other active transactions. -/
def State.machineReserved (s : State) (h : Hose) (m : Nat) : Nat :=
  (((s.otherActive h).filter fun k => (s.slots.get k).machine == some m).map s.reservedRemainder).sum

/-- The reserved remainders of the other active transactions on the account. -/
def State.accountReserved (s : State) (h : Hose) (i : Fin 32) : Nat :=
  (((s.otherActive h).filter fun k => (s.slots.get k).account == some i).map s.reservedRemainder).sum

/-- The machine remainder, where the entry has a daily allowance and the machine is tracked (R103). -/
def State.machineRemainder (s : State) (h : Hose) (e : Entry) : Option Nat :=
  if (s.roster.usageOf e.body.machine).isNone && s.roster.usageFull then none
  else
    e.body.daily.map fun d =>
      d - s.roster.chargedToday e.body.machine - e.body.usedElsewhere
        - s.machineReserved h e.body.machine

/-- The account remainder, where the account has a day cap (R103). -/
def State.accountRemainder (s : State) (h : Hose) (i : Fin 32) : Option Nat :=
  let a := s.roster.accounts.get i
  if a.code = 0 then none else a.dayCap.map fun cap => cap - a.dayCharged - s.accountReserved h i

/-- The greatest authorised volume, 999,999 cL. -/
def ceilingVolume : Nat := 999999

/-- The seven candidates of R102 in order, each present or absent. -/
def State.candidates (s : State) (h : Hose) (e : Entry) : List (Option Nat × Binding) :=
  [((s.slots.get h).preset.volume, .preset),
   (e.body.perFill, .fillLimit),
   (s.machineRemainder h e, .machineAllowance),
   (s.accountRemainder h e.body.account, .accountCap),
   (some (s.availableStock (hoseComp h)), .stockAvailable),
   ((s.slots.get h).tank, .tankCapacity),
   (some ceilingVolume, .ceiling)]

/-- The least present candidate, the lowest-numbered of equals (R102). -/
def leastCandidate : List (Option Nat × Binding) → Option AuthorisedVolume
  | [] => none
  | (none, _) :: rest => leastCandidate rest
  | (some v, b) :: rest =>
    match leastCandidate rest with
    | none => some ⟨v, b⟩
    | some best => if v ≤ best.volume then some ⟨v, b⟩ else some best

/-! ### Binding (R1) -/

/-- The channel binds its transaction context with the calibrated Kq (R1). -/
def Channel.bind (c : Channel) (kq : Nat) : Channel :=
  { c with
    bound := true, txn := { TxnContext.fresh with kq := kq }, debt := 0, phaseErrors := 0
    excessReported := false, lastChanged := none, ceilingReported := false }

/-- The channel unbinds; its transaction figures stay (R1). -/
def Channel.unbind (c : Channel) : Channel :=
  { c with bound := false, debt := 0, phaseErrors := 0, excessReported := false, lastChanged := none }

/-- What the Hose Control Unit sets at entry to READY from authorisation (2.1, R30, R33, R44, R46). -/
def HoseControl.startTransaction (c : HoseControl) (d : DepotSettings) (noFlow : Timer) : HoseControl :=
  { c with
    slowBand := d.slowBand, closeAhead := d.closeAhead, flowWindow := [], noFlow := noFlow
    overrunReported := false, transactionException := none, leakWindow := [], leakArmed := true }

/-! ### Authorisation and refusal -/

/-- The slot of a successful attempt (R105). -/
def State.authorisedSlot (s : State) (h : Hose) (e : Entry) (v : AuthorisedVolume) : Slot :=
  { s.slots.get h with
    account := some e.body.account, operator := s.operator, authorised := some v
    price := some (s.prices.get (hoseComp h)), alpha := some (s.cal.alpha.get (hoseComp h))
    authTime := some s.clock.counter, authDay := some s.roster.stamp
    holds := HoldSet.empty, lastRefusal := none, identTimer := none, overrideTimer := none }

/-- The authorisation is taken (R105): latched values, journal reservation, day-usage entry, binding,
READY with its pump demand and event, presence tracking for a TAG transaction, the first volume
comparison, and the restock test where the reservation lowered available stock (R128). -/
def State.authorise (s : State) (h : Hose) (e : Entry) (v : AuthorisedVolume) : State :=
  let t := (s.reserveSlot (.hose h)).useUsage e.body.machine
  let t := t.modSlot h fun _ => s.authorisedSlot h e v
  let t := t.modChan h fun c => c.bind (s.cal.kq.get h)
  let t := t.modHoseCtl h fun c => c.startTransaction s.depot (s.timer 60000)
  let t := t.modTracking h fun _ =>
    { running := (s.slots.get h).method == some .tag, misses := 0, restoreWindow := none }
  ((t.setSlotState h .ready).restockIfFell (hoseComp h) (s.availableStock (hoseComp h))).compareVolume h

/-- What a refusal keeps of a slot: preset and the reason, with the identification timer restarted
(R104). -/
def Slot.refused (x : Slot) (reason : RefusalReason) (ident : Timer) : Slot :=
  { x with
    machine := none, entry := none, method := none, inlet := none, tank := none, hours := none
    flags := SlotFlags.none, lastRefusal := some reason, identTimer := ident, overrideTimer := none }

/-- A refusal (R104): the pin is released and the slot returns to IDENT with its reason. -/
def State.refuse (s : State) (h : Hose) (reason : RefusalReason) : State :=
  ((s.releaseEntry (s.slots.get h).entry).modSlot h fun x =>
    x.refused reason (s.timer 120000)).setSlotState h .ident

/-- What an attempt decides: a refusal, or the authorised volume (R101, R102). -/
def State.verdict (s : State) (h : Hose) (e : Entry) : Except RefusalReason AuthorisedVolume :=
  match firstFailing (s.refusalChecks h e.body) with
  | some reason => .error reason
  | none =>
    match leastCandidate (s.candidates h e) with
    | none => .error (.limit .ceiling)
    | some v => if v.volume < 100 then .error (.limit v.binding) else .ok v

/-- The authorisation attempt of a slot that holds a roster entry (5.3). -/
def State.attempt (s : State) (h : Hose) : State :=
  match s.slotEntry h with
  | none => s
  | some e =>
    let t := s.modSlot h fun x => { x with flags := s.attemptFlags h e }
    match s.verdict h e with
    | .error reason => t.refuse h reason
    | .ok v => t.authorise h e v

/-! ### Lookup and identification (R97 to R99) -/

/-- A completed lookup waits for hours: the entry asks for them, the slot has none, and the method is not
OVERRIDE (R98). -/
def State.needsHours (s : State) (h : Hose) (e : Entry) : Bool :=
  e.body.hoursRequired && (s.slots.get h).hours.isNone && (s.slots.get h).method != some .override

/-- A lookup is completed: HOURS_WAIT, or an attempt at once (R98). -/
def State.lookupCompleted (s : State) (h : Hose) : State :=
  match s.slotEntry h with
  | none => s
  | some e =>
    if s.needsHours h e then
      (s.modSlot h fun x =>
        { x with identTimer := s.timer 120000, overrideTimer := none }).setSlotState h .hoursWait
    else s.attempt h

/-- The slot is given an entry: pinned for it (R72), and its lookup is completed (R98). -/
def State.giveEntry (s : State) (h : Hose) (w : WayRef) : State :=
  ((s.modRoster fun r => r.pin w).modSlot h fun x => { x with entry := some w }).lookupCompleted h

/-- A slot's machine number is looked up (R71, R97): a hit sets the replacement bits and gives the entry,
a miss puts the slot in LOOKUP on the machine's request. -/
def State.lookup (s : State) (h : Hose) (m : Nat) : State :=
  match s.roster.findWay m with
  | some w => (s.modRoster fun r => r.touch w).giveEntry h w
  | none =>
    ((s.modSlot h fun x => { x with identTimer := s.timer 120000 }).setSlotState h .lookup).requestMachine
      h m

/-- An identification as R58 and R59 hand it on. -/
structure Identification where
  machine : Nat
  method : Method
  inlet : Option Nat
  tank : Option Nat
  hours : Option Nat
  deriving DecidableEq, Repr

/-- An identification reaches a slot in IDENT (R97). Its hours, with source TAG, replace the slot's. -/
def State.identify (s : State) (h : Hose) (i : Identification) : State :=
  (s.modSlot h fun x =>
    { x with
      machine := some i.machine, method := some i.method, inlet := i.inlet, tank := i.tank
      hours :=
        match i.hours with
        | none => x.hours
        | some v => some ⟨v, .tag⟩ }).lookup h i.machine

/-- Engine hours reach a slot before READY (R61); in HOURS_WAIT they release it to an attempt (R99). -/
def State.setHours (s : State) (h : Hose) (v : EngineHours) : State :=
  let t := s.modSlot h fun x => { x with hours := some v }
  if s.slotState h = .hoursWait then t.attempt h else t

/-- A slot in OVERRIDE_WAIT is served under the supervisor window (R82): method OVERRIDE, the cache's entry
of its machine whatever its origin, else a provisional entry. -/
def State.serveOverride (s : State) (h : Hose) : State :=
  match s.slotState h, (s.slots.get h).machine with
  | .overrideWait, some m =>
    let t := s.modSlot h fun x => { x with method := some .override }
    match s.roster.findWay m with
    | some w => t.giveEntry h w
    | none =>
      let u := (t.modRoster fun r => r.fill (provisionalBody r.site m) .provisional).raise .provisional
      match u.roster.findWay m with
      | some w => u.giveEntry h w
      | none => u
  | _, _ => s

/-- Every slot in OVERRIDE_WAIT is served in the order H1, H2, H3 (R82). -/
def State.serveOverrides (s : State) : State :=
  ((s.serveOverride .h1).serveOverride .h2).serveOverride .h3

/-- A slot whose request's wait has expired enters OVERRIDE_WAIT (R81): its identification timer ends and
its override window starts, but while the supply is SAVED it is not started (R115). An open supervisor
window serves it at once. -/
def State.enterOverrideWait (s : State) (h : Hose) : State :=
  let t := (s.modSlot h fun x =>
    { x with identTimer := none, overrideTimer := if s.isNormal then s.timer 60000 else none }).setSlotState
    h .overrideWait
  if s.supervisor.isSome then t.serveOverride h else t

/-! ### The return to IDLE -/

/-- A reader goes to OFF: timers, held number, miss count and page fetch are cleared; the last pages and
the last tag event stay (R51). -/
def ReaderState.powerOff (r : ReaderState) : ReaderState :=
  { ReaderState.off with lastBase := r.lastBase, nextPages := r.nextPages, lastEvent := r.lastEvent }

/-- A slot returns to IDLE (R109, R111): every field cleared, the nozzle reader OFF with any pending tag
identification discarded (R51), tracking ended with its miss count at 0 (the model's choice, log 42), the
channel unbound (R1). -/
def State.toIdle (s : State) (h : Hose) : State :=
  (((((s.modSlot h fun x => { Slot.fresh with state := x.state }).modReader (.nr h) fun r =>
    r.powerOff).setPendingTag h false).modTracking h fun _ => Tracking.off).modChan h fun c =>
      if c.bound then c.unbind else c).setSlotState h .idle

/-- Abandonment (R109) of a slot in IDENT, LOOKUP, OVERRIDE_WAIT or HOURS_WAIT. -/
def State.abandon (s : State) (h : Hose) : State :=
  if (s.slotState h).waiting then
    ((s.releaseEntry (s.slots.get h).entry).modRoster fun r => r.leaveRequests h).toIdle h
  else s

/-! ### Completion -/

/-- The weighted mean temperature, 150 + rounded(W / gross), absent when gross is 0 (R17). -/
def TxnContext.meanTemp (t : TxnContext) : Option Int :=
  if t.gross = 0 then none else some (150 + roundedDiv t.w t.gross)

/-- What a completion takes its figures from: the slot, the metering figures, the transaction exception,
the gross totalizer, and the unmetered pulses of a ride-through closure (R111, R190). -/
structure Completion where
  slot : Slot
  txn : TxnContext
  exception : Option ExceptionRecord
  grossTotalizer : Nat
  unmetered : Option Nat
  deriving DecidableEq, Repr

/-- The flags of the record (R111, step 2). -/
def Completion.flags (k : Completion) (clockValid : Bool) : SlotFlags :=
  { k.slot.flags with
    overAuthorised := k.slot.flags.overAuthorised || k.slot.authorisedVolume < k.txn.net
    clockInvalid := k.slot.flags.clockInvalid || !clockValid }

/-- The DISPENSE record (R113). -/
def State.composeDispense (s : State) (h : Hose) (k : Completion) : DispenseRecord :=
  { hose := h, machine := k.slot.machine, method := k.slot.method, operator := k.slot.operator
    account := k.slot.account, authorised := k.slot.authorised, gross := k.txn.gross, net := k.txn.net
    meanTemp := k.txn.meanTemp, price := k.slot.price, amount := k.txn.amount
    authTime := k.slot.authTime, authDay := k.slot.authDay, endTime := s.clock.counter
    endCause := k.slot.endCause, hours := k.slot.hours, exception := k.exception
    unmetered := k.unmetered, grossTotalizer := k.grossTotalizer, flags := k.flags s.clock.valid }

/-- The charge of R112, min(net, authorised volume). -/
def Completion.charge (k : Completion) : Nat := min k.txn.net k.slot.authorisedVolume

/-- The handover of R87 with the account and the machine of the slot. -/
def Roster.chargeCompletion (r : Roster) (k : Completion) : Roster :=
  match k.slot.machine, k.slot.account with
  | some m, some i => r.charge m i (k.slot.authDay.getD 0) k.charge k.txn.net k.txn.amount
  | _, _ => r

/-- The update of R63 where the slot's hours were decided plausible, in the entry `w` it references. -/
def Roster.hoursCompletion (r : Roster) (w : Option WayRef) (k : Completion) : Roster :=
  match k.slot.machine, k.slot.hours with
  | some m, some v => if k.slot.flags.hoursImplausible then r else r.updateHours w m v.hours
  | _, _ => r

/-- Completion (R111): the record into the reserved slot, the charge, the hours, the pin, then IDLE. -/
def State.complete (s : State) (h : Hose) (k : Completion) : State :=
  ((((s.convertSlot (.hose h) (.dispense (s.composeDispense h k))).modRoster fun r =>
    (r.chargeCompletion k).hoursCompletion (s.slots.get h).entry k).releaseEntry
      (s.slots.get h).entry)).toIdle h

/-- The completion of a slot at the end of its settle, from its live figures (R111). -/
def State.liveCompletion (s : State) (h : Hose) : Completion :=
  { slot := s.slots.get h, txn := (s.chan.get h).txn
    exception := (s.hoseCtl.get h).transactionException
    grossTotalizer := (s.chan.get h).grossTotalizer, unmetered := none }

end Sys2Proof.Machine
end

