-- ==== Sys2Proof/Machine/IdentUnit.lean ====
section
/-! DEFINITION. The Identification Unit's shared operations (3.2 to 3.7): link states, the tag exchange,
presence tracking, operators and the supervisor window. -/

namespace Sys2Proof.Machine

open Sys2Proof

/-- A reader's last tag event is set with the Site Clock time, and TAG_EVENT raised (R70). -/
def State.setTagEvent (s : State) (r : Reader) (kind : TagEventKind) (number : Option Nat) : State :=
  (s.modReader r fun x => { x with lastEvent := some ⟨kind, number, s.clock.counter⟩ }).raise .tagEvent

/-- A pending tag identification of the reader's hose is discarded. PR has none. -/
def State.discardPending (s : State) : Reader → State
  | .nr h => s.setPendingTag h false
  | .pr => s

/-- Held number, miss count and page fetch are cleared (R51, R52, R56). -/
def ReaderState.dropTag (x : ReaderState) : ReaderState :=
  { x with held := none, misses := 0, fetchLeft := 0, fetchUnanswered := 0 }

/-- The states in which a fault report acts: any but OFF (R51). In FAULT the entry happens again, so that PR's
retry timer starts afresh (R52). -/
def LinkState.canFault : LinkState → Bool
  | .qualifying | .listening | .tagPresent | .fault => true
  | .off => false

/-- Entry to FAULT (R51): every timer of the reader is cancelled, what it held is dropped (log 16), no hours are
handed on (log 48), and READER_FAULT is set; PR starts its retry timer (R52). -/
def State.enterFault (s : State) (r : Reader) : State :=
  if (s.reader r).link.canFault then
    ((s.discardPending r).modReader r fun x =>
      { x.dropTag with
        link := .fault, stableTimer := none, qualifyLimit := none, pollTimer := none
        retryTimer := if r = .pr then s.timer 10000 else none }).setTagEvent r .readerFault none
  else s

/-- A reader enters QUALIFYING with both qualify timers started (R51, R52). -/
def State.startQualifying (s : State) (r : Reader) : State :=
  s.modReader r fun x =>
    { x.dropTag with
      link := .qualifying, stableTimer := s.timer 250, qualifyLimit := s.timer 1000
      retryTimer := none, pollTimer := none }

/-- A reader in LISTENING or TAG_PRESENT polls (R53). -/
def LinkState.polls : LinkState → Bool
  | .listening | .tagPresent => true
  | _ => false

/-! ### The end of an exchange (R55, R58) -/

/-- The identification a hose's reader hands on at the end of an exchange (R58). -/
def ReaderState.identification (x : ReaderState) (machine : Nat) : Identification :=
  { machine := machine, method := .tag, inlet := x.lastBase.map pageInlet
    tank := pageTank x.nextPages, hours := pageHours x.nextPages }

/-- The state waits between identification and READY (R58). -/
def SlotState.identified : SlotState → Bool
  | .lookup | .overrideWait | .hoursWait => true
  | _ => false

/-- The exchange of a nozzle reader ends (R55): a pending tag identification is cleared and handed on if
the slot is in IDENT; the hours of a tag of the slot's own machine reach a slot that waits (R58, R61). The
slot's machine is the one it has now, at the end of the exchange: the model's choice (log 44). -/
def State.endExchange (s : State) (h : Hose) : State :=
  let x := s.nozzleReader.get h
  match x.held with
  | none => s.setPendingTag h false
  | some tag =>
    if s.pendingTag.get h then
      let t := s.setPendingTag h false
      if s.slotState h = .ident then t.identify h (x.identification tag.number) else t
    else if (s.slotState h).identified && (s.slots.get h).machine == some tag.number then
      match pageHours x.nextPages with
      | some v => s.setHours h ⟨v, .tag⟩
      | none => s
    else s

/-! ### Operators and supervisors (R67, R68) -/

/-- An operator logs on (R67). -/
def State.logOn (s : State) (n : Nat) : State :=
  ({ s with operator := some n, logoffTimer := if s.allIdle then s.timer 1800000 else none }).setTagEvent
    .pr .operatorOn (some n)

/-- The logged-on operator, if there is one, is logged off (R67). -/
def State.logOff (s : State) : State :=
  match s.operator with
  | none => s
  | some n => ({ s with operator := none, logoffTimer := none }).setTagEvent .pr .operatorOff (some n)

/-- The supervisor window opens or restarts (R68), and the waiting slots are served (R82). -/
def State.openSupervisor (s : State) (n : Nat) : State :=
  (({ s with supervisor := s.timer 60000 }).setTagEvent .pr .supervisorOpen (some n)).serveOverrides

/-! ### Acceptance (R54) -/

/-- What a reader holds after accepting a base page. -/
def ReaderState.accept (x : ReaderState) (tag : HeldTag) (b : BasePage) (pages : Nat) : ReaderState :=
  { x with
    link := .tagPresent, held := some tag, misses := 0, lastBase := some b, nextPages := []
    fetchLeft := pages, fetchUnanswered := 0 }

/-- A nozzle reader accepts a MACHINE page (R54): it claims a slot in IDENT, sets TAG_NOT_USED for a waiting
slot of another machine (R58; log 19), and ends the exchange at once where no page follows. -/
def State.acceptMachine (s : State) (h : Hose) (tag : HeldTag) (b : BasePage) : State :=
  let t := s.modReader (.nr h) fun x => x.accept tag b (pageNextCount b)
  let t :=
    if s.slotState h = .ident ∧ s.pendingTag.get h = false then t.setPendingTag h true
    else if (s.slotState h).identified ∧ (s.slots.get h).machine ≠ some tag.number then
      t.setTagEvent (.nr h) .tagNotUsed (some tag.number)
    else t
  if pageNextCount b = 0 then t.endExchange h else t

/-- A reader accepts a base page; at PR the page acts at once (R54, R67, R68). -/
def State.acceptPage (s : State) (r : Reader) (tag : HeldTag) (b : BasePage) : State :=
  match r with
  | .nr h => s.acceptMachine h tag b
  | .pr =>
    let t := s.modReader .pr fun x => x.accept tag b 0
    match tag.tagClass with
    | .supervisor => t.openSupervisor tag.number
    | _ => t.logOn tag.number

/-! ### Polls in TAG_PRESENT (R55 to R57) -/

/-- The exchange of the reader ends, where it is a nozzle reader's. -/
def State.endExchangeOf (s : State) : Reader → State
  | .nr h => s.endExchange h
  | .pr => s

/-- The page fetch is ended with pages outstanding (R55). -/
def State.breakFetch (s : State) (r : Reader) : State :=
  if (s.reader r).fetchLeft = 0 then s
  else (s.modReader r fun x => { x with fetchLeft := 0, fetchUnanswered := 0 }).endExchangeOf r

/-- A request of the fetch goes unanswered; the second in a row ends the fetch (R55). -/
def State.pageUnanswered (s : State) (r : Reader) : State :=
  if (s.reader r).fetchLeft = 0 then s
  else if (s.reader r).fetchUnanswered = 0 then s.modReader r fun x => { x with fetchUnanswered := 1 }
  else s.breakFetch r

/-- A poll that finds the held tag returns the miss count to 0 (R56). -/
def State.tagFound (s : State) (r : Reader) : State := s.modReader r fun x => { x with misses := 0 }

/-- A missed poll (R56): at three the reader returns to LISTENING and drops its tag, an exchange still
running ending first. -/
def State.tagMissed (s : State) (r : Reader) : State :=
  if 2 ≤ (s.reader r).misses then
    (s.breakFetch r).modReader r fun x =>
      if x.link = .tagPresent then { x.dropTag with link := .listening } else x
  else s.modReader r fun x => { x with misses := x.misses + 1 }

/-- A next page arrives (R55): during the fetch it is kept, and the last of them ends the exchange;
otherwise the poll is a miss (log 17). -/
def State.nextPageArrives (s : State) (r : Reader) (q : NextPage) : State :=
  if (s.reader r).fetchLeft = 0 then s.tagMissed r
  else
    let t := s.modReader r fun x =>
      { x with
        misses := 0, nextPages := x.nextPages ++ [q], fetchLeft := x.fetchLeft - 1, fetchUnanswered := 0 }
    if (s.reader r).fetchLeft = 1 then t.endExchangeOf r else t

/-- A base page in TAG_PRESENT (R55, R56): the held number is found, though a request of the fetch is then
unanswered; another number is a miss and ends the fetch; a discarded page is no answer (R54; log 17). -/
def State.basePageHeld (s : State) (r : Reader) (b : BasePage) : State :=
  match acceptedTag r b with
  | none => (s.pageUnanswered r).tagMissed r
  | some tag =>
    if (s.reader r).held.map (·.number) = some tag.number then (s.tagFound r).pageUnanswered r
    else (s.breakFetch r).tagMissed r

/-- One poll result of a reader in TAG_PRESENT. -/
def State.pollPresent (s : State) (r : Reader) : PollAnswer → State
  | .noAnswer => (s.pageUnanswered r).tagMissed r
  | .basePage b _ => s.basePageHeld r b
  | .nextPage q _ => s.nextPageArrives r q
  | .collision => ((s.breakFetch r).tagMissed r).setTagEvent r .tagConflict none
  | .fault => s.enterFault r

/-- One poll result of a reader in LISTENING (R54, R57). -/
def State.pollListening (s : State) (r : Reader) : PollAnswer → State
  | .noAnswer => s
  | .basePage b _ =>
    match acceptedTag r b with
    | none => s
    | some tag => s.acceptPage r tag b
  | .nextPage _ _ => s
  | .collision => s.setTagEvent r .tagConflict none
  | .fault => s.enterFault r

/-! ### Presence tracking (R64 to R66) -/

/-- The three presence results (R64). -/
inductive Presence where
  | present | miss
  | mismatch (number : Nat)
  deriving DecidableEq, Repr

/-- The presence result of a poll answer at a hose (R64), from the reader as it stood at the poll. -/
def State.presenceOf (s : State) (h : Hose) : PollAnswer → Presence
  | .basePage b _ =>
    match acceptedTag (.nr h) b with
    | none => .miss
    | some tag => if (s.slots.get h).machine = some tag.number then .present else .mismatch tag.number
  | .nextPage _ _ =>
    let x := s.nozzleReader.get h
    if x.link = .tagPresent ∧ x.fetchLeft ≠ 0 ∧ x.held.map (·.number) = (s.slots.get h).machine then .present
    else .miss
  | _ => .miss

/-- TAG_LOST joins the hold set and the restore window starts (R65). -/
def State.loseTag (s : State) (h : Hose) : State :=
  ((s.modTracking h fun k => { k with restoreWindow := s.timer 60000 }).addHold h .tagLost).raise
    (.hoseState h)

/-- TAG_LOST leaves the hold set and the restore window is cancelled (R65). -/
def State.restoreTag (s : State) (h : Hose) : State :=
  ((s.modTracking h fun k => { k with restoreWindow := none }).removeHold h .tagLost).raise (.hoseState h)

/-- A tracking miss (R64, R65). -/
def State.trackingMiss (s : State) (h : Hose) : State :=
  let n := min 3 ((s.tracking.get h).misses + 1)
  let t := s.modTracking h fun k => { k with misses := n }
  if n = 3 ∧ (s.slots.get h).holds.tagLost = false then t.loseTag h else t

/-- A presence result reaches a tracked hose (R64 to R66). -/
def State.takePresence (s : State) (h : Hose) : Presence → State
  | .present =>
    let t := s.modTracking h fun k => { k with misses := 0 }
    if (s.slots.get h).holds.tagLost then t.restoreTag h else t
  | .miss => s.trackingMiss h
  | .mismatch n => (s.setTagEvent (.nr h) .tagNotUsed (some n)).enterClosing h .tagMismatch

/-- The presence result of one poll, where tracking ran before the poll and still runs (R64; log 32).
`before` is the state the poll was made in. -/
def State.pollPresence (s before : State) (r : Reader) (a : PollAnswer) : State :=
  match r with
  | .nr h =>
    if (before.tracking.get h).running && (s.tracking.get h).running then
      s.takePresence h (before.presenceOf h a)
    else s
  | .pr => s

/-- A poll result (R53): in QUALIFYING and FAULT only a fault acts, as R51 states; a reader that is OFF takes
none. -/
def State.takePoll (s : State) (r : Reader) (a : PollAnswer) : State :=
  match (s.reader r).link with
  | .listening => (s.pollListening r a).pollPresence s r a
  | .tagPresent => (s.pollPresent r a).pollPresence s r a
  | .qualifying | .fault =>
    match a with
    | .fault => s.enterFault r
    | _ => s
  | .off => s

end Sys2Proof.Machine
end

