-- ==== Sys2Proof/Machine/MeterUnit.lean ====
section
/-! DEFINITION. The Meter Channel's operations (1.2 to 1.10) with what the Hose Control Unit does at a
pulse: decoding, the two contexts, flow sense, OVERRUN, the unattributed accumulator and LEAK. -/

namespace Sys2Proof.Machine

open Sys2Proof

/-! ### Product temperature (R9 to R12) -/

/-- The deviation in effect (R12). -/
def Channel.deviation (c : Channel) : Int :=
  match c.tempState, c.lastTemp with
  | .substituted, _ => 0
  | _, none => 0
  | _, some r => r.temp - 150

/-- The deviation comes from a reading marked clamped (R12). -/
def Channel.weightsClamped (c : Channel) : Bool :=
  match c.tempState, c.lastTemp with
  | .substituted, _ => false
  | _, none => false
  | _, some r => r.clamped

/-- A valid sample (R9): clamped to −400 … +600, with both timers set. -/
def Channel.validSample (c : Channel) (temp : Int) (absence : Timer) : Channel :=
  { c with
    lastTemp := some ⟨clampInt (-400) 600 temp, temp < -400 || 600 < temp⟩
    tempState := .valid, holdTimer := none, absenceTimer := absence }

/-- A VALID channel enters HOLDING with the hold timer, or SUBSTITUTED where it has no reading (R10). -/
def Channel.loseSample (c : Channel) (hold : Timer) : Channel :=
  if c.tempState = .valid then
    if c.lastTemp.isNone then { c with tempState := .substituted }
    else { c with tempState := .holding, holdTimer := hold }
  else c

/-! ### The arithmetic of a pulse (R7, R14, R16) -/

/-- The gross increment and the new remainder of one counted pulse (R7). -/
def pulseStep (kq remainder : Nat) : Nat × Nat := ((remainder + 1000) / kq, (remainder + 1000) % kq)

/-- Net from gross and W (R14). -/
def netOf (alpha gross : Nat) (w : Int) : Nat := ((gross : Int) - correction alpha w).toNat

/-- One counted pulse taken by a transaction context (R7, R14, R16). -/
def TxnContext.pulse (t : TxnContext) (alpha price : Nat) (d : Int) : TxnContext :=
  let k := (pulseStep t.kq t.remainder).1
  let gross := t.gross + k
  let w := t.w + k * d
  let net := netOf alpha gross w
  { t with
    remainder := (pulseStep t.kq t.remainder).2, gross := gross, w := w, net := net
    amount := amountOf net price }

/-- A context at its range's end (R8, R19): gross at 999,994 cL or net at 999,990 cL. -/
def atCeiling (gross net : Nat) : Bool := 999994 ≤ gross || 999990 ≤ net

/-- The unattributed context that takes the next pulse (R19): an empty one opens with the current α, one at
its ceiling restarts its sums. -/
def openContext (c : Option UnattributedContext) (alpha : Nat) : UnattributedContext :=
  match c with
  | none => { alpha := alpha, remainder := 0, gross := 0, w := 0, net := 0 }
  | some u => if atCeiling u.gross u.net then { u with gross := 0, w := 0, net := 0 } else u

/-- One counted pulse taken by an unattributed context (R7, R14, R19). -/
def UnattributedContext.pulse (u : UnattributedContext) (kq : Nat) (d : Int) : UnattributedContext :=
  let k := (pulseStep kq u.remainder).1
  let gross := u.gross + k
  let w := u.w + k * d
  { u with remainder := (pulseStep kq u.remainder).2, gross := gross, w := w, net := netOf u.alpha gross w }

/-- The totalizers gain a pulse's increments, modulo 10^11 (R18). -/
def Channel.totalize (c : Channel) (gross net : Nat) : Channel :=
  { c with
    grossTotalizer := (c.grossTotalizer + gross) % totalizerModulus
    netTotalizer := (c.netTotalizer + net) % totalizerModulus }

/-- The flags a pulse with whole centilitres sets in the slot (R12). -/
def SlotFlags.weigh (f : SlotFlags) (c : Channel) : SlotFlags :=
  { f with
    tempClamped := f.tempClamped || c.weightsClamped
    tcSubstituted := f.tcSubstituted || c.tempState == .substituted }

/-! ### A net increment is handed on (R15) -/

/-- The Stock Unit debits book stock and the Receipt Unit counts D, in the order of R15's table (log 13).
`before` is the compartment's available stock before the pulse. -/
def State.handNet (s : State) (c : Comp) (n before : Nat) : State := (s.debitStock c n before).countDispensed c n

/-! ### A transaction pulse -/

/-- Flow sense (R29) and the restart of the no-flow timer (R30) at a counted transaction pulse. -/
def State.senseFlow (s : State) (h : Hose) : State :=
  let t := if (s.slotState h).delivers then s.modHoseCtl h fun c => { c with noFlow := s.timer 60000 } else s
  match s.slotState h with
  | .ready =>
    let w := pushTaking (s.hoseCtl.get h).flowWindow s.now
    if windowFull w 1000 then
      (t.modHoseCtl h fun c => { c with flowWindow := [], flowStop := s.timer 3000 }).setSlotState h .flowing
    else t.modHoseCtl h fun c => { c with flowWindow := w }
  | .flowing => t.modHoseCtl h fun c => { c with flowStop := s.timer 3000 }
  | _ => t

/-- OVERRUN (R33): net first exceeds the authorised volume by more than 200 cL. -/
def State.checkOverrun (s : State) (h : Hose) : State :=
  if (s.hoseCtl.get h).overrunReported = false
      ∧ (s.slots.get h).authorisedVolume + 200 < (s.chan.get h).txn.net then
    (s.modHoseCtl h fun c => { c with overrunReported := true }).meterException h .overrun
  else s

/-- A counted pulse on the transaction route (R2, R7, R14 to R18), then flow sense, the volume comparison
and OVERRUN. -/
def State.transactionPulse (s : State) (h : Hose) : State :=
  let c := s.chan.get h
  let x := s.slots.get h
  let txn := c.txn.pulse (x.alpha.getD 0) (x.price.getD 0) c.deviation
  let k := txn.gross - c.txn.gross
  let n := txn.net - c.txn.net
  let t := s.modChan h fun c => ({ c with txn := txn }).totalize k n
  let t := if k = 0 then t else t.modSlot h fun x => { x with flags := x.flags.weigh c }
  let t := (t.handNet (hoseComp h) n (s.availableStock (hoseComp h))).senseFlow h
  if n = 0 ∧ (t.slotState h = s.slotState h) then t else (t.compareVolume h).checkOverrun h

/-! ### An unattributed pulse -/

/-- The accumulator takes a pulse's increments (R47). -/
def Accumulator.gain (a : Accumulator) (gross net time : Nat) : Accumulator :=
  if gross = 0 then a
  else
    { gross := min 999999 (a.gross + gross), net := min 999999 (a.net + net)
      windowStart := some (a.windowStart.getD time), windowEnd := some time }

/-- LEAK detection at a counted pulse (R46): valves closed, slot not CLOSING, detection armed. -/
def State.senseLeak (s : State) (h : Hose) : State :=
  if (s.slotState h).authorised && s.slotState h != .paused then s
  else if (s.hoseCtl.get h).leakArmed then
    let w := pushTaking (s.hoseCtl.get h).leakWindow s.now
    let t := s.modHoseCtl h fun c => { c with leakWindow := w }
    if windowFull w 10000 then
      (t.modHoseCtl h fun c => { c with leakArmed := false }).meterException h .leak
    else t
  else s

/-- A counted pulse on the unattributed route (R2, R19, R47). LEAK is sensed on the slot the pulse is taken in
(R46), before the increment is handed on (log 13). -/
def State.unattributedPulse (s : State) (h : Hose) : State :=
  let c := s.chan.get h
  let old := openContext c.unattributed (s.cal.alpha.get (hoseComp h))
  let new := old.pulse (s.kqInEffect h) c.deviation
  let k := new.gross - old.gross
  let n := new.net - old.net
  let t := s.modChan h fun c => ({ c with unattributed := some new }).totalize k n
  let t := (t.modHoseCtl h fun u => { u with accumulator := u.accumulator.gain k n s.clock.counter }).senseLeak h
  t.handNet (hoseComp h) n (s.availableStock (hoseComp h))

/-! ### Routing (R2, R8, R31) -/

/-- The pulse is on the transaction route (R2). -/
def State.onTransactionRoute (s : State) (h : Hose) : Bool :=
  (s.chan.get h).bound && (s.slotState h).authorised && s.slotState h != .paused

/-- The ceiling report of a transaction's first diverted pulse (R8, R31): a slot in READY, FLOWING or
SLOWING closes with PRESET_REACHED. -/
def State.reportCeiling (s : State) (h : Hose) : State :=
  if (s.chan.get h).ceilingReported then s
  else
    let t := s.modChan h fun c => { c with ceilingReported := true }
    if (s.slotState h).delivers then t.enterClosing h .presetReached else t

/-- A counted forward pulse takes its route (R2, R8). A diverted pulse hands its increment on before the
ceiling report, so that a dead-stock cut at the same pulse is the end cause: the model's choice (log 13), since
R31 and R121 are silent on the order. -/
def State.countedPulse (s : State) (h : Hose) : State :=
  if s.onTransactionRoute h then
    if atCeiling (s.chan.get h).txn.gross (s.chan.get h).txn.net then
      (s.unattributedPulse h).reportCeiling h
    else s.transactionPulse h
  else s.unattributedPulse h

/-! ### Decoding (R3 to R6, R22) -/

def Channel.level (c : Channel) : MeterLine → Bool
  | .p1 => c.p1
  | .p2 => c.p2

/-- A line takes a level and becomes the last-changed line (R3). -/
def Channel.lineTakes (c : Channel) (line : MeterLine) (high : Bool) : Channel :=
  match line with
  | .p1 => { c with p1 := high, lastChanged := some .p1 }
  | .p2 => { c with p2 := high, lastChanged := some .p2 }

/-- The direction of a rising edge that passes the check (R3): P1 rising with P2 low, or P2 rising with P1
high, is forward. -/
def Channel.forward (c : Channel) : MeterLine → Bool
  | .p1 => !c.p2
  | .p2 => c.p1

/-- The reverse-debt cap, ⌈Kq/10⌉ (R6). -/
def debtCap (kq : Nat) : Nat := ceilDiv kq 10

/-- A rising edge that breaks the alternation (R4). `s` has the line's new level already. -/
def State.phaseError (s : State) (h : Hose) : State :=
  let n := (s.chan.get h).phaseErrors
  let t := s.modChan h fun c => { c with phaseErrors := min 9 (n + 1) }
  if n = 8 then t.meterReport h .pulsePhase else t

/-- A reverse pulse (R5, R6). -/
def State.reversePulse (s : State) (h : Hose) : State :=
  let c := s.chan.get h
  if c.debt < debtCap (s.kqInEffect h) then s.modChan h fun c => { c with debt := c.debt + 1 }
  else if c.excessReported then s
  else (s.modChan h fun c => { c with excessReported := true }).meterReport h .reverseExcess

/-- A forward pulse (R5): used up against the debt, or counted. -/
def State.forwardPulse (s : State) (h : Hose) : State :=
  if (s.chan.get h).debt = 0 then s.countedPulse h
  else s.modChan h fun c => { c with debt := c.debt - 1, excessReported := false }

/-- A rising edge while the supply is NORMAL (R3, R4). -/
def State.risingEdge (s : State) (h : Hose) (line : MeterLine) : State :=
  let c := s.chan.get h
  let t := s.modChan h fun c => c.lineTakes line true
  if c.lastChanged = some line then t.phaseError h
  else if c.forward line then t.forwardPulse h
  else t.reversePulse h

/-- A rising edge while the supply is SAVED is an unmetered pulse (R22). -/
def State.unmeteredEdge (s : State) (h : Hose) (line : MeterLine) : State :=
  s.modChan h fun c =>
    { c.lineTakes line true with unmetered := min 65535 (c.unmetered + 1) }

/-- A change of level on a meter line (R3); the same level again is no change (log 10). -/
def State.takeEdge (s : State) (h : Hose) (line : MeterLine) (high : Bool) : State :=
  if (s.chan.get h).level line = high then s
  else if high then
    if s.isNormal then s.risingEdge h line else s.unmeteredEdge h line
  else s.modChan h fun c => c.lineTakes line false

end Sys2Proof.Machine
end

