-- ==== Sys2Proof/Machine/SupplyUnit.lean ====
section
/-! DEFINITION. The Supply Monitor's operations (10.1 to 10.5): the entry to SAVED with its save, the
closure of saved work, the ride-through, power-on and the panel restart. -/

namespace Sys2Proof.Machine

open Sys2Proof

/-! ### The save (R187) -/

/-- The saved meter figures of a bound channel (R187). -/
def Channel.saved (c : Channel) : Option SavedMeter :=
  if c.bound then some ⟨c.txn, c.debt, c.phaseErrors, c.grossTotalizer, c.netTotalizer⟩ else none

/-- The saved context of a slot that is not IDLE (R187). -/
def State.savedSlot (s : State) (h : Hose) : Option SavedSlot :=
  if s.slotState h = .idle then none
  else
    some
      { slot := s.slots.get h
        pinned := (s.slotEntry h).map fun e => ⟨e.body.machine, e.body.account⟩
        slowBand := (s.hoseCtl.get h).slowBand
        closeAhead := (s.hoseCtl.get h).closeAhead
        meter := (s.chan.get h).saved
        exception := if (s.chan.get h).bound then (s.hoseCtl.get h).transactionException else none }

/-- The saved receipt of a compartment, where it is not CLOSED (R187). -/
def State.savedReceipt (s : State) (c : Comp) : Option Receipt :=
  if (s.receipts.get c).state = .closed then none else some (s.receipts.get c)

def Stock.saved (x : Stock) : SavedStock := ⟨x.book, x.credited, x.adjusted, x.dispensed, x.armed⟩

/-- The Save Area written whole (R187). -/
def State.saveArea (s : State) : SaveArea where
  slots := ⟨s.savedSlot .h1, s.savedSlot .h2, s.savedSlot .h3⟩
  receipts := ⟨s.savedReceipt .a, s.savedReceipt .b⟩
  register := s.journal.register
  stock := ⟨s.stock.a.saved, s.stock.b.saved⟩
  totals :=
    ⟨⟨s.chan.h1.grossTotalizer, s.chan.h1.netTotalizer⟩,
     ⟨s.chan.h2.grossTotalizer, s.chan.h2.netTotalizer⟩,
     ⟨s.chan.h3.grossTotalizer, s.chan.h3.netTotalizer⟩⟩

/-- What the entry to SAVED stops at one hose: the hose timers (R49), the slot's timers (R115), presence
tracking, its miss count left as it stands (log 42), and the pending tag identification (R69), its nozzle reader
(R51, R69; log 29), and the unmetered-pulse counter set to 0 (R22). -/
def State.freezeHose (s : State) (h : Hose) : State :=
  (((((s.modHoseCtl h fun c =>
    { c with flowStop := none, noFlow := none, pause := none, settle := none }).modSlot h fun x =>
      { x with identTimer := none, overrideTimer := none }).modTracking h fun k =>
        { k with running := false, restoreWindow := none }).setPendingTag h false).modReader (.nr h) fun r =>
          r.powerOff).modChan h fun c => { c with unmetered := 0 }

/-- What it stops at one compartment: the run-on timer (R43) and the receipt's timers (R152). -/
def State.freezeComp (s : State) (c : Comp) : State :=
  (s.modPump c fun p => { p with runOn := none }).modReceipt c fun r =>
    { r with qualification := none, limit := none }

/-- PR goes to QUALIFYING with its timers stopped (R69). -/
def ReaderState.panelFrozen (r : ReaderState) : ReaderState :=
  { r.powerOff with link := .qualifying }

/-- Entry to SAVED (R187): the blocks' timers end, the supervisor window closes, the Save Area is written. -/
def State.enterSaved (s : State) : State :=
  let t := ((s.freezeHose .h1).freezeHose .h2).freezeHose .h3
  let t := (t.freezeComp .a).freezeComp .b
  let t := t.modReader .pr fun r => r.panelFrozen
  { t with supply := .saved, supervisor := none, save := t.saveArea }

/-! ### The closure (R189 to R191) -/

/-- The slot of a saved transaction as the closure completes it (R190). -/
def Slot.interrupted (x : Slot) : Slot :=
  { x with
    state := .closing
    endCause := if x.state = .closing then x.endCause else some .powerInterrupted
    flags := { x.flags with powerInterrupted := true } }

/-- The figures the closure completes a saved transaction with (R190). -/
def SavedSlot.completion (v : SavedSlot) (unmetered : Option Nat) : Completion where
  slot := v.slot.interrupted
  txn := (v.meter.map (·.txn)).getD TxnContext.fresh
  exception := v.exception
  grossTotalizer := (v.meter.map (·.grossTotalizer)).getD 0
  unmetered := unmetered

/-- Step 1 of R189 at one hose: a saved transaction is closed and leaves the Save Area. -/
def State.closeSaved (s : State) (h : Hose) (unmetered : Option Nat) : State :=
  match s.save.slots.get h with
  | none => s
  | some v =>
    if v.slot.state.authorised then
      let t := s.complete h (v.completion unmetered)
      { t with save := { t.save with slots := t.save.slots.set h none } }
    else s

/-- Step 2 of R189 at one hose: a saved slot before READY is abandoned. -/
def State.abandonSaved (s : State) (h : Hose) : State :=
  let t := s.abandon h
  { t with save := { t.save with slots := t.save.slots.set h none } }

/-- Step 3 of R189 at one compartment: a saved receipt is continued (R191). -/
def State.continueSaved (s : State) (c : Comp) : State :=
  match s.save.receipts.get c with
  | none => s
  | some r =>
    let t := s.continueReceipt c r
    { t with save := { t.save with receipts := t.save.receipts.set c none } }

/-- The unmetered pulses of a hose as a ride-through record carries them (R190). -/
def State.unmeteredOf (s : State) (h : Hose) : Option Nat := some (s.chan.get h).unmetered

/-- The decoder and the lift at the return to NORMAL (R23, R49). -/
def State.resumeHose (s : State) (h : Hose) : State :=
  (s.modChan h fun c => { c with lastChanged := none }).modHoseCtl h fun c =>
    { c with liftArmed := s.switches.nozzleIn.get h }

/-- The return to NORMAL (R189): held events are latched, the saved transactions closed, the slots before
READY abandoned, the receipts continued; then lifts, pumps, PR and the variance checks (R49, R69, R130). -/
def State.returnToNormal (s : State) : State :=
  let t := ({ s with supply := .normal, resetCause := .supplyRestore }).latchHeld
  let t := ((t.closeSaved .h1 (s.unmeteredOf .h1)).closeSaved .h2 (s.unmeteredOf .h2)).closeSaved .h3
    (s.unmeteredOf .h3)
  let t := ((t.abandonSaved .h1).abandonSaved .h2).abandonSaved .h3
  let t := (t.continueSaved .a).continueSaved .b
  let t := ((t.resumeHose .h1).resumeHose .h2).resumeHose .h3
  let t := { t with pumps := PerComp.all PumpControl.fresh, save := { t.save with register := Register.empty } }
  (t.startQualifying .pr).checkVariances

/-! ### Starting values (R192, R193) -/

/-- A compartment's stock at a start: the figures held in non-volatile memory, no notice, and the cut flag
evaluated (R122, R134). -/
def startStock (v : SavedStock) (dead : Nat) : Stock where
  book := v.book
  credited := v.credited
  adjusted := v.adjusted
  dispensed := v.dispensed
  cut := v.book ≤ dead
  armed := v.armed
  lastNotice := none

/-- Every RAM item at its starting value, with the stock figures and totalizers given, and RESTARTED
latched alone on every port (R192, R193). Levels of lines and switches, the clock and the time stay. -/
def State.started (s : State) (cause : ResetCause) (figures : PerComp SavedStock)
    (totals : PerHose SavedTotals) : State :=
  State.raise
    { s with
      chan :=
        ⟨Channel.fresh ⟨s.chan.h1.p1, s.chan.h1.p2⟩ totals.h1 s.now,
         Channel.fresh ⟨s.chan.h2.p1, s.chan.h2.p2⟩ totals.h2 s.now,
         Channel.fresh ⟨s.chan.h3.p1, s.chan.h3.p2⟩ totals.h3 s.now⟩
      hoseCtl :=
        ⟨HoseControl.fresh s.switches.nozzleIn.h1, HoseControl.fresh s.switches.nozzleIn.h2,
         HoseControl.fresh s.switches.nozzleIn.h3⟩
      pumps := PerComp.all PumpControl.fresh
      nozzleReader := PerHose.all ReaderState.off
      panelReader := ReaderState.panelStart s.now
      tracking := PerHose.all Tracking.off
      pendingTag := PerHose.all false
      operator := none
      logoffTimer := none
      supervisor := none
      roster := s.roster.restarted
      slots := PerHose.all Slot.fresh
      stock := ⟨startStock figures.a s.cal.dead.a, startStock figures.b s.cal.dead.b⟩
      gauge := PerComp.all Gauge.fresh
      tilt := Tilt.fresh
      receipts := PerComp.all Receipt.fresh
      cal := { s.cal with staged := none }
      supply := .normal
      resetCause := cause
      ports := PerPort.all PortState.fresh } .restarted

/-- The register rebuilt from the Save Area (R173): the holders of the saved transactions from READY
onward and of the saved receipts. -/
def SaveArea.holders (v : SaveArea) : Register :=
  let hose (h : Hose) : Option Bool :=
    match v.slots.get h with
    | some x => if x.slot.state.authorised then v.register.hoses.get h else none
    | none => none
  let receipt (c : Comp) : Option Bool :=
    if (v.receipts.get c).isSome then v.register.receipts.get c else none
  { hoses := ⟨hose .h1, hose .h2, hose .h3⟩, receipts := ⟨receipt .a, receipt .b⟩ }

/-- The line levels read at power-on (R23). -/
def Channel.withLevels (c : Channel) (v : LineLevels) : Channel := { c with p1 := v.p1, p2 := v.p2 }

/-- Power-on (R192): RAM at its starting values, the figures of the Save Area, the register rebuilt, the
cold closure, then the Journal Unit's start and the first rollover check. -/
def State.powerUp (s : State) (lines : PerHose LineLevels) (switches : Switches) : State :=
  let s :=
    { s with
      now := 0, clock := Clock.fresh, switches := switches
      chan := ⟨s.chan.h1.withLevels lines.h1, s.chan.h2.withLevels lines.h2, s.chan.h3.withLevels lines.h3⟩ }
  let t := s.started .powerOn s.save.stock s.save.totals
  let t := t.modJournal fun j => { j with register := s.save.holders }
  let t := ((t.closeSaved .h1 none).closeSaved .h2 none).closeSaved .h3 none
  let t := (t.continueSaved .a).continueSaved .b
  let t := { t with save := { t.save with slots := PerHose.all none, register := Register.empty } }
  t.startJournal.checkRollover

/-- An accepted RESTART's re-initialisation (R193). -/
def State.panelRestart (s : State) : State :=
  (s.started .panelRestart ⟨s.stock.a.saved, s.stock.b.saved⟩
    ⟨⟨s.chan.h1.grossTotalizer, s.chan.h1.netTotalizer⟩,
     ⟨s.chan.h2.grossTotalizer, s.chan.h2.netTotalizer⟩,
     ⟨s.chan.h3.grossTotalizer, s.chan.h3.netTotalizer⟩⟩).startJournal

end Sys2Proof.Machine
end

