-- ==== Sys2Proof/Machine/Responses.lean ====
section
/-! DEFINITION. The response payloads, records and event details of 11.5 (R199, R201, R202), field by field
in table order. -/

namespace Sys2Proof.Machine

open Sys2Proof

/-! ### Pieces -/

def zeros (n : Nat) : List Byte := List.replicate n 0

/-- An optional field: its bytes, or zeros in its width while it is absent (R202). -/
def opt {α : Type} (width : Nat) (x : Option α) (f : α → List Byte) : List Byte :=
  match x with
  | none => zeros width
  | some v => f v

/-- The next sequence number or the cursor on the wire: 0 where it is the exhausted mark (R202). -/
def seqField (n : Nat) : List Byte := if n = seqEnd then zeros 4 else field 4 n

/-- A last tag event: kind, number (0 where none), time (READ_HOSE table). -/
def tagEventBytes (e : Option TagEvent) : List Byte :=
  opt 8 e fun v => field 1 v.kind.code ++ field 3 (v.number.getD 0) ++ field 4 v.time

/-- The pending exception's code, 0 where absent (R197). -/
def exceptionCode (e : Option ExceptionRecord) : Nat := (e.map (·.code.code)).getD 0

/-- The status value REFUSED of R197. -/
def refusedValue : Nat := 6

/-- A slot's last refusal reason in the form of R197; the exception code is the pending exception's as it
stands (log 15). -/
def State.refusalForm (s : State) (h : Hose) : List Byte :=
  match (s.slots.get h).lastRefusal with
  | none => zeros 3
  | some .exceptionPending =>
    field 1 refusedValue ++ field 1 (RefusalReason.exceptionPending).code
      ++ field 1 (exceptionCode (s.hoseCtl.get h).pendingException)
  | some reason => field 1 refusedValue ++ field 1 reason.code ++ zeros 1

/-! ### Journal (R163, R164 to R166) -/

/-- The journal summary, 19 bytes. R202 gives the coding 0 for an exhausted next number and a cursor there; of the
oldest uncollected it says nothing, so 4,294,967,296 (numbers exhausted, nothing uncollected) is a value too
wide for its field, whose bytes are open (log 11). -/
def Journal.summary (j : Journal) : List Byte :=
  field 4 j.oldest ++ seqField j.next ++ field 2 j.uncollected ++ field 2 j.register.count
    ++ field 2 j.free ++ seqField j.cursor
    ++ field 1 (bitsNat [j.next == seqEnd, j.highLatch])

def DispenseRecord.body (r : DispenseRecord) (clockInvalid : Bool) : List Byte :=
  field 1 (hoseCode r.hose) ++ field 1 (compCode (hoseComp r.hose)) ++ field 1 (productCode (hoseComp r.hose))
    ++ field 3 (r.machine.getD 0) ++ field 1 ((r.method.map (·.code)).getD 0)
    ++ field 2 (r.operator.getD 0) ++ field 1 ((r.account.map (·.val)).getD 0)
    ++ field 3 ((r.authorised.map (·.volume)).getD 0)
    ++ field 1 ((r.authorised.map (·.binding.code)).getD 0)
    ++ field 3 r.gross ++ field 3 r.net ++ opt 2 r.meanTemp (fieldInt 2) ++ field 3 (r.price.getD 0)
    ++ field 4 r.amount ++ field 4 (r.authTime.getD 0) ++ field 4 (r.authDay.getD 0) ++ field 4 r.endTime
    ++ field 1 ((r.endCause.map (·.code)).getD 0) ++ opt 3 r.hours (fun v => field 3 v.hours)
    ++ field 1 (exceptionCode r.exception) ++ field 1 ((r.exception.map (·.further)).getD 0)
    ++ opt 2 r.unmetered (field 2) ++ field 5 r.grossTotalizer
    ++ field 2 ({ r.flags with clockInvalid := clockInvalid }).bits
    ++ field 1 (bitsNat [r.meanTemp.isSome, r.hours.isSome, r.unmetered.isSome, r.operator.isSome,
        r.exception.isSome])

/-- A snapshot's net volume and level. -/
def Snapshot.bytes (v : Snapshot) : List Byte := fieldInt 4 v.net ++ field 2 v.level

/-- The ABOVE_TABLE marks: bit 0 V0, bit 1 V1. -/
def aboveMarks (v0 v1 : Option Snapshot) : Nat :=
  bitsNat [(v0.map (·.aboveTable)).getD false, (v1.map (·.aboveTable)).getD false]

def ReceiptRecord.body (r : ReceiptRecord) (clockInvalid : Bool) : List Byte :=
  field 1 (compCode r.comp) ++ field 1 (productCode r.comp) ++ field 4 r.docket ++ field 4 r.declared
    ++ field 1 r.basis.code ++ opt 6 r.v0 Snapshot.bytes ++ opt 6 r.v1 Snapshot.bytes
    ++ field 1 (aboveMarks r.v0 r.v1) ++ field 4 r.dispensed ++ opt 4 r.measured (fieldInt 4)
    ++ opt 4 r.variance (fieldInt 4) ++ fieldInt 4 r.credit ++ fieldInt 5 r.bookAfter
    ++ field 4 r.openTime ++ field 4 r.fillStart ++ field 4 r.fillEnd ++ field 4 r.closeTime
    ++ field 1 (bitsNat [r.overfillTrip, r.gaugeUnavailable, r.aborted, clockInvalid])
    ++ field 1 (boolBit r.v1.isSome)

def AdjustmentRecord.body (r : AdjustmentRecord) (clockInvalid : Bool) : List Byte :=
  field 1 (compCode r.comp) ++ field 1 (productCode r.comp) ++ fieldInt 4 r.delta ++ [r.reason]
    ++ fieldInt 5 r.bookAfter ++ field 4 r.time ++ field 1 (boolBit clockInvalid)

/-- A summary of a parameter's value, 8 bytes. -/
def CalSummary.bytes : CalSummary → List Byte
  | .value v => field 4 v ++ zeros 4
  | .pair a q => field 4 a ++ field 4 q
  | .table n level volume => field 1 n ++ field 2 level ++ field 4 volume ++ zeros 1

def CalibrationRecord.body (r : CalibrationRecord) (clockInvalid : Bool) : List Byte :=
  field 1 r.target.codes.1 ++ field 1 r.target.codes.2.1 ++ field 1 r.target.codes.2.2
    ++ r.old.bytes ++ r.new.bytes ++ field 4 r.counter ++ field 4 r.time ++ field 1 (boolBit clockInvalid)

def UnattributedRecord.body (r : UnattributedRecord) (clockInvalid : Bool) : List Byte :=
  field 1 (hoseCode r.hose) ++ field 1 (compCode (hoseComp r.hose)) ++ field 1 (productCode (hoseComp r.hose))
    ++ field 3 r.gross ++ field 3 r.net ++ field 4 (r.windowStart.getD 0) ++ field 4 (r.windowEnd.getD 0)
    ++ field 5 r.grossTotalizer ++ field 4 r.time ++ field 1 (boolBit clockInvalid)

/-- The kind of a record and the bytes of its own fields. -/
def RecordBody.bytes : RecordBody → Bool → Nat × List Byte
  | .dispense r, c => (1, r.body c)
  | .receipt r, c => (2, r.body c)
  | .adjustment r, c => (3, r.body c)
  | .calibration r, c => (4, r.body c)
  | .unattributed r, c => (5, r.body c)

/-- A record whole: length, sequence, kind, fields. -/
def JournalRecord.bytes (r : JournalRecord) : List Byte :=
  let kb := r.body.bytes r.clockInvalid
  let rest := field 4 r.seq ++ field 1 kb.1 ++ kb.2
  field 1 (rest.length + 1) ++ rest

/-! ### Status and stock (R135, R186) -/

def State.statusOf (s : State) (c : Comp) : List Byte :=
  fieldInt 5 (s.stock.get c).book ++ field 5 (s.availableStock c) ++ [boolByte (s.stock.get c).cut]

/-- READ_STATUS as R186 and R202 lay it out, with no field for CAL_ENABLE: R185 says READ_STATUS or READ_CAL
shows the switch, and here READ_CAL does (log 41). -/
def State.statusPayload (s : State) : List Byte :=
  field 1 s.supply.code ++ field 1 s.resetCause.code ++ [boolByte s.clock.valid]
    ++ s.statusOf .a ++ s.statusOf .b

/-- The age of a last valid gauge, counter less time (R127); left open where the time is later (log 12). -/
def ageField (counter time : Nat) : List Byte :=
  if time ≤ counter then field 4 (counter - time)
  else beBytes 4 (Config.ageOfLaterReading counter time).toNat

/-- A last valid gauge as READ_STOCK and READ_GAUGE carry it, 17 bytes. -/
def State.readingBytes (s : State) (r : GaugeReading) : List Byte :=
  field 2 r.level ++ field 4 r.gross ++ fieldInt 4 r.net ++ fieldInt 2 r.temp ++ [boolByte r.aboveTable]
    ++ ageField s.clock.counter r.time

def VarianceCheck.bytes (v : VarianceCheck) : List Byte :=
  fieldInt 5 v.difference ++ field 5 v.tolerance ++ [boolByte v.beyond] ++ field 4 v.time

def RestockNotice.bytes (v : RestockNotice) : List Byte := field 4 v.volume ++ field 4 v.time

/-- One compartment of READ_STOCK, with its own presence byte (log 23). -/
def State.stockOf (s : State) (c : Comp) : List Byte :=
  let k := s.stock.get c
  let g := s.gauge.get c
  fieldInt 5 k.book ++ field 4 (s.cal.dead.get c) ++ field 3 (s.reservedStock c)
    ++ field 5 (s.availableStock c) ++ [boolByte k.cut] ++ field 4 (s.depot.reorder.get c)
    ++ [boolByte k.armed] ++ field 5 k.credited ++ field 5 k.adjusted ++ field 5 k.dispensed
    ++ opt 8 k.lastNotice RestockNotice.bytes ++ field 1 g.state.code ++ opt 17 g.lastValid s.readingBytes
    ++ opt 15 g.lastCheck VarianceCheck.bytes
    ++ field 1 (bitsNat [k.lastNotice.isSome, g.lastValid.isSome, g.lastCheck.isSome])

def State.stockPayload (s : State) : List Byte := s.stockOf .a ++ s.stockOf .b

/-! ### READ_GAUGE (R135) -/

def GaugeFrame.bytes (f : GaugeFrame) : List Byte := field 2 f.level ++ fieldInt 2 f.temp ++ [boolByte !f.ok]

/-- The level history, ten entries of two bytes, unused ones 0. -/
def historyBytes (xs : List Nat) : List Byte := xs.flatMap (field 2) ++ zeros (20 - 2 * xs.length)

/-- Highest and lowest level, absent of an empty history. -/
def historyRange : List Nat → Option (Nat × Nat)
  | [] => none
  | x :: xs => some (highest (x :: xs), lowest (x :: xs))

def State.gaugePayload (s : State) (c : Comp) : List Byte :=
  let g := s.gauge.get c
  field 1 (compCode c) ++ field 1 g.state.code ++ opt 5 g.latest GaugeFrame.bytes
    ++ field 1 g.history.length ++ historyBytes g.history
    ++ opt 4 (historyRange g.history) (fun v => field 2 v.1 ++ field 2 v.2)
    ++ opt 4 s.tilt.reading (fun v => bytes2 v.pitch ++ bytes2 v.roll) ++ [boolByte s.tiltBeyond]
    ++ opt 4 g.validSince (field 4) ++ opt 17 g.lastValid s.readingBytes
    ++ field 1 (bitsNat [g.latest.isSome, (historyRange g.history).isSome, s.tilt.reading.isSome,
        g.validSince.isSome, g.lastValid.isSome])

/-! ### READ_RECEIPT (R153) -/

/-- The seconds left on a timer, absent while it is not running. -/
def State.secondsOf (s : State) (t : Timer) : Option Nat := t.map s.secondsLeft

/-- READ_RECEIPT in the layout of R202. 7.1 lists the reserved journal slot, held or not, among the fields R153
returns, and the layout has no place for it: the layout is followed (log 45). -/
def State.receiptPayload (s : State) (c : Comp) : List Byte :=
  let r := s.receipts.get c
  let q := s.secondsOf r.qualification
  let l := s.secondsOf r.limit
  field 1 (compCode c) ++ field 1 r.state.code ++ opt 4 r.docket (field 4) ++ opt 4 r.declared (field 4)
    ++ opt 1 r.basis (fun b => field 1 b.code) ++ opt 6 r.v0 Snapshot.bytes ++ opt 6 r.v1 Snapshot.bytes
    ++ field 1 (aboveMarks r.v0 r.v1) ++ opt 4 r.dispensed (field 4) ++ opt 4 r.measured (fieldInt 4)
    ++ opt 4 r.variance (fieldInt 4) ++ opt 4 r.credit (fieldInt 4)
    ++ field 1 (bitsNat [r.overfillTrip, r.gaugeUnavailable, r.aborted])
    ++ opt 1 r.outcome (fun o => field 1 o.code) ++ opt 4 r.openTime (field 4) ++ opt 4 r.fillStart (field 4)
    ++ opt 4 r.fillEnd (field 4) ++ opt 4 r.closeTime (field 4) ++ opt 2 q (field 2) ++ opt 2 l (field 2)
    ++ [boolByte (s.inletOpen c)] ++ [boolByte (s.switches.overfill.get c)]
    ++ field 1 (s.gauge.get c).state.code
    ++ field 2 (bitsNat [r.docket.isSome, r.declared.isSome, r.basis.isSome, r.v0.isSome, r.v1.isSome,
        r.dispensed.isSome, r.measured.isSome, r.variance.isSome, r.credit.isSome, r.outcome.isSome,
        r.openTime.isSome, r.fillStart.isSome, r.fillEnd.isSome, r.closeTime.isSome, q.isSome, l.isSome])

/-! ### READ_CAL (R184) -/

def StrapPoint.bytes (p : StrapPoint) : List Byte := field 2 p.level ++ field 4 p.gross

/-- A live table's point count with its last point. -/
def tableSummary (points : List StrapPoint) : List Byte :=
  field 1 points.length ++ opt 6 points.getLast? StrapPoint.bytes

def State.calGeneral (s : State) : List Byte :=
  let k := s.cal
  [boolByte s.switches.calEnable] ++ field 4 k.audit ++ field 2 k.kq.h1 ++ field 2 k.kq.h2 ++ field 2 k.kq.h3
    ++ field 2 k.alpha.a ++ field 2 k.alpha.b ++ field 4 k.dead.a ++ field 4 k.dead.b
    ++ field 2 k.highHigh.a ++ field 2 k.highHigh.b ++ field 2 k.tiltLimit ++ field 4 k.tolAbsolute
    ++ field 4 k.tolPpm ++ tableSummary k.strapping.a ++ tableSummary k.strapping.b
    ++ (match k.staged with
        | none => [0xFF, 0]
        | some t => field 1 (compCode t.comp) ++ field 1 t.points.length)
    ++ field 4 s.depot.reorder.a ++ field 4 s.depot.reorder.b ++ field 1 s.depot.basis.a.code
    ++ field 1 s.depot.basis.b.code ++ field 2 s.depot.slowBand ++ field 1 s.depot.closeAhead
    ++ field 1 s.depot.runOn

/-- The staged points of a compartment; none where the table is not staged for it. -/
def Calibration.stagedPoints (k : Calibration) (c : Comp) : List StrapPoint :=
  match k.staged with
  | none => []
  | some t => if t.comp = c then t.points else []

def calTable (c : Comp) (table : Nat) (points : List StrapPoint) (first : Nat) : List Byte :=
  let some16 := (points.drop first).take 16
  field 1 (compCode c) ++ field 1 table ++ field 1 points.length ++ field 1 some16.length
    ++ some16.flatMap StrapPoint.bytes

/-! ### Accounts (R89, R172) -/

def accountIndices : List (Fin 32) := List.finRange 32

def Account.bytes (a : Account) : List Byte :=
  field 4 a.code ++ (match a.dayCap with
    | none => [0xFF, 0xFF, 0xFF, 0xFF]
    | some v => field 4 v) ++ field 4 a.dayCharged ++ field 5 a.periodNet ++ field 5 a.periodAmount
    ++ field 4 a.periodCount

/-- Up to eight entries from an index onward. -/
def State.accountsPayload (s : State) (first : Fin 32) : List Byte :=
  let ix := (accountIndices.drop first.val).take 8
  seqField s.journal.next ++ field 1 ix.length
    ++ ix.flatMap fun i => field 1 i.val ++ (s.roster.accounts.get i).bytes

def State.periodPayload (s : State) (i : Fin 32) : List Byte :=
  let a := s.roster.accounts.get i
  seqField s.journal.next ++ field 5 a.periodNet ++ field 5 a.periodAmount ++ field 4 a.periodCount

/-! ### READ_HOSE (R24, R50, R70, R116) -/

def BasePage.bytes (b : BasePage) : List Byte := b.head :: bytes3 b.number

def NextPage.bytes (q : NextPage) : List Byte := q.kind :: bytes4 q.value

/-- The reserved remainder where the slot holds an active transaction (R107, R116). -/
def State.remainderOf (s : State) (h : Hose) : Option Nat :=
  if (s.slotState h).authorised then some (s.reservedRemainder h) else none

/-- The end cause once the slot is in CLOSING (R50). -/
def State.endCauseOf (s : State) (h : Hose) : Option EndCause :=
  if s.slotState h = .closing then (s.slots.get h).endCause else none

/-- The Transaction Unit's and the Hose Control Unit's slot fields of READ_HOSE. -/
def State.hoseSlotBytes (s : State) (h : Hose) : List Byte :=
  let x := s.slots.get h
  field 1 (hoseCode h) ++ field 1 x.state.code ++ opt 3 x.machine (field 3)
    ++ opt 1 x.method (fun m => field 1 m.code) ++ field 1 x.preset.code ++ field 2 x.preset.litres
    ++ opt 1 x.account (fun i => field 1 i.val) ++ opt 2 x.operator (field 2)
    ++ opt 4 x.authorised (fun v => field 3 v.volume ++ field 1 v.binding.code) ++ opt 3 x.price (field 3)
    ++ opt 3 (s.remainderOf h) (field 3) ++ field 2 x.flags.bits ++ field 1 x.holds.bits
    ++ opt 1 (s.endCauseOf h) (fun e => field 1 e.code) ++ s.refusalForm h
    ++ opt 4 x.hours (fun v => field 3 v.hours ++ field 1 v.source.code)

/-- The metering, drive and exception fields of READ_HOSE. -/
def State.hoseMeterBytes (s : State) (h : Hose) : List Byte :=
  let c := s.chan.get h
  let u := s.hoseCtl.get h
  field 3 c.txn.gross ++ field 3 c.txn.net ++ field 4 c.txn.amount ++ field 1 c.tempState.code
    ++ opt 3 c.lastTemp (fun v => fieldInt 2 v.temp ++ [boolByte v.clamped])
    ++ field 5 c.grossTotalizer ++ field 5 c.netTotalizer
    ++ field 1 (bitsNat [s.mainOpen h, s.slowOpen h, s.pumpRuns (hoseComp h)])
    ++ field 1 (exceptionCode u.pendingException)
    ++ field 1 ((u.pendingException.map (·.further)).getD 0)
    ++ field 3 u.accumulator.gross ++ field 3 u.accumulator.net

/-- The identification fields of READ_HOSE. -/
def State.hoseTagBytes (s : State) (h : Hose) : List Byte :=
  let r := s.nozzleReader.get h
  field 1 r.link.code ++ opt 3 r.held (fun v => field 3 v.number) ++ field 1 (s.tracking.get h).misses
    ++ opt 4 r.lastBase BasePage.bytes ++ field 1 r.nextPages.length
    ++ r.nextPages.flatMap NextPage.bytes ++ zeros (15 - 5 * r.nextPages.length)
    ++ [boolByte (s.pendingTag.get h)] ++ tagEventBytes r.lastEvent
    ++ field 1 s.panelReader.link.code ++ tagEventBytes s.panelReader.lastEvent
    ++ opt 2 s.operator (field 2) ++ opt 1 s.supervisor (fun due => field 1 (s.secondsLeft due))

/-- Presence, bits 0 … 12, in table order. -/
def State.hosePresence (s : State) (h : Hose) : Nat :=
  let x := s.slots.get h
  let r := s.nozzleReader.get h
  bitsNat [x.machine.isSome, x.method.isSome, x.account.isSome, x.operator.isSome, x.authorised.isSome,
    x.price.isSome, (s.remainderOf h).isSome, (s.endCauseOf h).isSome, x.hours.isSome,
    (s.chan.get h).lastTemp.isSome, r.held.isSome, r.lastBase.isSome, s.operator.isSome]

def State.hosePayload (s : State) (h : Hose) : List Byte :=
  s.hoseSlotBytes h ++ s.hoseMeterBytes h ++ s.hoseTagBytes h ++ field 2 (s.hosePresence h)

/-! ### READ_EVENTS (R199) -/

/-- The events of a port in the bit order of 11.4. -/
def portEvents : Port → List Event
  | .panel =>
    [.hoseState .h1, .hoseState .h2, .hoseState .h3, .tagEvent, .exception .h1, .exception .h2,
      .exception .h3, .stockCut, .estop, .restarted]
  | .office =>
    [.rosterRequest, .journalNew, .journalHigh, .dayRollover, .stockVariance, .restockNeeded,
      .calibration, .provisional, .usageFull, .restarted]
  | .depot =>
    [.receiptState .a, .receiptState .b, .overfill, .gaugeState .a, .gaugeState .b, .stockVariance,
      .restockNeeded, .restarted]

/-- The Request List: count, then three requests with machine and seconds left, oldest first. -/
def State.requestBytes (s : State) : List Byte :=
  field 1 s.roster.requests.length
    ++ s.roster.requests.flatMap (fun q =>
        field 3 q.machine ++ field 1 (((s.secondsOf q.wait)).getD 0))
    ++ zeros (12 - 4 * s.roster.requests.length)

/-- The machine numbers of the PROVISIONAL entries in the cache, by set and way (log 38). -/
def Roster.provisionals (r : Roster) : List Nat :=
  r.cache.toList.flatMap fun c =>
    c.ways.toList.filterMap fun e =>
      match e with
      | some v => if v.origin = .provisional then some v.body.machine else none
      | none => none

def Roster.provisionalBytes (r : Roster) : List Byte :=
  field 1 r.provisionals.length ++ r.provisionals.flatMap (field 3) ++ zeros (9 - 3 * r.provisionals.length)

/-- An optional figure as a detail carries it: present mark and bytes. -/
def markedOpt {α : Type} (width : Nat) (x : Option α) (f : α → List Byte) : List Byte :=
  boolByte x.isSome :: opt width x f

/-- The detail of an event (R199). -/
def State.eventDetail (s : State) : Event → List Byte
  | .hoseState h => field 1 (s.slotState h).code ++ s.refusalForm h
  | .tagEvent =>
    tagEventBytes s.nozzleReader.h1.lastEvent ++ tagEventBytes s.nozzleReader.h2.lastEvent
      ++ tagEventBytes s.nozzleReader.h3.lastEvent ++ tagEventBytes s.panelReader.lastEvent
  | .exception h =>
    field 1 (exceptionCode (s.hoseCtl.get h).pendingException)
      ++ field 1 (((s.hoseCtl.get h).pendingException.map (·.further)).getD 0)
  | .stockCut => field 1 (bitsNat [s.stock.a.cut, s.stock.b.cut])
  | .estop => [boolByte s.switches.estop]
  | .restarted => field 1 s.resetCause.code
  | .rosterRequest => s.requestBytes
  | .journalNew => s.journal.summary
  | .journalHigh => s.journal.summary
  | .dayRollover => field 4 s.roster.stamp
  | .stockVariance =>
    markedOpt 15 s.gauge.a.lastCheck VarianceCheck.bytes ++ markedOpt 15 s.gauge.b.lastCheck VarianceCheck.bytes
  | .restockNeeded =>
    markedOpt 8 s.stock.a.lastNotice RestockNotice.bytes ++ markedOpt 8 s.stock.b.lastNotice RestockNotice.bytes
  | .calibration => boolByte s.switches.calEnable :: field 4 s.cal.audit
  | .provisional => s.roster.provisionalBytes
  | .usageFull => field 1 s.roster.usage.length
  | .receiptState c =>
    field 1 (s.receipts.get c).state.code
      ++ field 1 (((s.receipts.get c).outcome.map (·.code)).getD 0)
  | .overfill => field 1 (bitsNat [s.switches.overfill.a, s.switches.overfill.b])
  | .gaugeState c => field 1 (s.gauge.get c).state.code

/-- The events whose details a read of the port carries: each latched flag's, with the journal summary
once for JOURNAL_NEW and JOURNAL_HIGH together (R202). -/
def State.detailEvents (s : State) (p : Port) : List Event :=
  (portEvents p).filter fun e =>
    (s.ports.get p).hasFlag p e && !(e == .journalHigh && (s.ports.get p).hasFlag p .journalNew)

def State.eventsPayload (s : State) (p : Port) : List Byte :=
  bytes2 (s.ports.get p).latched ++ (s.detailEvents p).flatMap s.eventDetail

end Sys2Proof.Machine
end

