-- ==== Sys2Proof/Machine/PortUnit.lean ====
section
/-! DEFINITION. The Port Unit's handling of transfers (11.1): how a command frame is taken and answered, and
how a response is read. -/

namespace Sys2Proof.Machine

open Sys2Proof

/-! ### Answers -/

/-- What an owner gives back: the state after the command, and the answer. -/
abbrev Answer := State × Response

/-- The answer OK with a payload. -/
def answerWith (s : State) (payload : List Byte) : Answer := (s, ⟨.ok, payload⟩)

/-- The answer OK with an empty payload (R202). -/
def accepted (s : State) : Answer := answerWith s []

/-- A status other than OK, which carries no payload and leaves the state as it was (11.2). -/
def denied (s : State) (st : Status) : Answer := (s, ⟨st, []⟩)

/-! ### Ports a command is accepted on (11.3) -/

def onPanel : Port → Bool
  | .panel => true
  | _ => false

def onOffice : Port → Bool
  | .office => true
  | _ => false

def onDepot : Port → Bool
  | .depot => true
  | _ => false

def onAny : Port → Bool := fun _ => true

/-! ### Transfers -/

/-- The acceptance byte BUSY of a port whose buffer is occupied (R194). -/
def busyByte : Byte := 0x01

/-- A response joins the port's empty buffer, the acceptance byte 0 having been shifted out (R194). -/
def State.answer (s : State) (p : Port) (r : Response) : State :=
  s.modPort p fun x => { x with buffer := some r, shifted := [0] }

/-- A WRITE transfer to a port whose buffer is occupied: the frame is discarded (R194). -/
def State.discardFrame (s : State) (p : Port) : State :=
  s.modPort p fun x => { x with shifted := [busyByte] }

/-- Checks 3 and 4 of R195, then the owner (check 5). -/
def State.judge (s : State) (p : Port) (accepts : Port → Bool) (whileSaved : Bool)
    (owner : State → Answer) : Answer :=
  if !accepts p then denied s .wrongPort
  else if !s.isNormal && !whileSaved then denied s .supplyLow
  else owner s

/-- A WRITE transfer with a frame that passes checks 1 and 2 (R194, R195): with the buffer occupied the frame
is discarded; else it is judged, handed to its owner and answered in one event. -/
def State.takeCommand (s : State) (p : Port) (accepts : Port → Bool) (whileSaved : Bool)
    (owner : State → Answer) : State :=
  if (s.ports.get p).buffer.isSome then s.discardFrame p
  else
    let a := s.judge p accepts whileSaved owner
    a.1.answer p a.2

/-- A WRITE transfer with a frame that check 1 or 2 turns away (R195). -/
def State.turnAway (s : State) (p : Port) (st : Status) : State :=
  if (s.ports.get p).buffer.isSome then s.discardFrame p else s.answer p ⟨st, []⟩

/-- A response frame as READ shifts it out: status, length, payload (11.5). -/
def Response.frame (r : Response) : List Byte :=
  field 1 r.status.code ++ field 1 r.payload.length ++ r.payload

/-- A READ transfer with `n` bytes clocked after its type (R196). -/
def State.readBuffer (s : State) (p : Port) (n : Nat) : State :=
  match (s.ports.get p).buffer with
  | none => s.modPort p fun x => { x with shifted := zeros n }
  | some r =>
    s.modPort p fun x =>
      { x with
        shifted := (r.frame ++ zeros n).take n
        buffer := if r.frame.length ≤ n then none else some r }

/-- A void transfer with `n` bytes after its first (R194). -/
def State.voidOut (s : State) (p : Port) (n : Nat) : State :=
  s.modPort p fun x => { x with shifted := zeros n }

end Sys2Proof.Machine
end

