-- ==== Sys2Proof/Machine/Depot.lean ====
section
/-! DEFINITION. The Depot commands: deliveries, gauge, settings and calibration. -/

namespace Sys2Proof.Machine

open Sys2Proof

/-- A command that names a compartment: other than A or B it is OUT_OF_RANGE. -/
def forComp (b : Byte) (s : State) (f : Comp → Answer) : Answer :=
  match compOf b with
  | none => denied s .outOfRange
  | some c => f c

/-! ### OPEN_RECEIPT (R137) -/

/-- An accepted opening (R137). -/
def State.openReceipt (s : State) (c : Comp) (docket declared : Nat) : State :=
  ((s.reserveSlot (.receipt c)).modReceipt c fun _ =>
    { Receipt.fresh with
      state := .opening, docket := some docket, declared := some declared
      basis := some (s.depot.basis.get c), openTime := some s.clock.counter
      limit := s.timer 600000, qualification := s.qualificationNow c 30000 }).raise (.receiptState c)

def ownOpenReceipt (comp : Byte) (docket declared : BitVec 32) (s : State) : Answer :=
  forComp comp s fun c =>
    if declared.toNat < 1 ∨ maxVolume < declared.toNat then denied s .outOfRange
    else if (s.receipts.get c).state ≠ .closed then denied s .busy
    else if s.journal.free = 0 then denied s .journalFull
    else accepted (s.openReceipt c docket.toNat declared.toNat)

def doOpenReceipt (p : Port) (comp : Byte) (docket declared : BitVec 32) (s : State) : State :=
  s.takeCommand p onDepot false (ownOpenReceipt comp docket declared)

def execOpenReceipt (p : Port) (comp : Byte) (docket declared : BitVec 32) (s : State) :
    Host.Outcome State Fault Refusal := (doOpenReceipt p comp docket declared s).finish

/-! ### CLOSE_RECEIPT (R142) and ABORT_RECEIPT (R143) -/

def ownCloseReceipt (comp : Byte) (s : State) : Answer :=
  forComp comp s fun c =>
    match (s.receipts.get c).state with
    | .filling => accepted (s.endFill c)
    | .settling => accepted s
    | .opening => denied s .busy
    | .closed => denied s .busy

def doCloseReceipt (p : Port) (comp : Byte) (s : State) : State :=
  s.takeCommand p onDepot false (ownCloseReceipt comp)

def execCloseReceipt (p : Port) (comp : Byte) (s : State) : Host.Outcome State Fault Refusal :=
  (doCloseReceipt p comp s).finish

/-- The fill is ended with ABORTED (R143, R146). -/
def State.abortFill (s : State) (c : Comp) : State :=
  (s.modReceipt c fun r => { r with aborted := true }).endFill c

def ownAbortReceipt (comp : Byte) (s : State) : Answer :=
  forComp comp s fun c =>
    match (s.receipts.get c).state with
    | .opening => accepted (s.cancelReceipt c)
    | .filling => accepted (s.abortFill c)
    | .settling => denied s .busy
    | .closed => denied s .busy

def doAbortReceipt (p : Port) (comp : Byte) (s : State) : State :=
  s.takeCommand p onDepot false (ownAbortReceipt comp)

def execAbortReceipt (p : Port) (comp : Byte) (s : State) : Host.Outcome State Fault Refusal :=
  (doAbortReceipt p comp s).finish

/-! ### READ_RECEIPT (R153) and READ_GAUGE (R135) -/

def ownReadReceipt (comp : Byte) (s : State) : Answer :=
  forComp comp s fun c => answerWith s (s.receiptPayload c)

def doReadReceipt (p : Port) (comp : Byte) (s : State) : State :=
  s.takeCommand p onDepot false (ownReadReceipt comp)

def execReadReceipt (p : Port) (comp : Byte) (s : State) : Host.Outcome State Fault Refusal :=
  (doReadReceipt p comp s).finish

def ownReadGauge (comp : Byte) (s : State) : Answer := forComp comp s fun c => answerWith s (s.gaugePayload c)

def doReadGauge (p : Port) (comp : Byte) (s : State) : State := s.takeCommand p onDepot false (ownReadGauge comp)

def execReadGauge (p : Port) (comp : Byte) (s : State) : Host.Outcome State Fault Refusal :=
  (doReadGauge p comp s).finish

/-! ### SET_DEPOT (R183) -/

/-- The settings SET_DEPOT carries, absent when a value lies outside its range (R183, 9.6). -/
def depotOf (reorderA reorderB : BitVec 32) (basisA basisB : Byte) (slowBand : BitVec 16)
    (closeAhead runOn : Byte) : Option DepotSettings :=
  match basisOf basisA, basisOf basisB with
  | some ba, some bb =>
    if reorderA.toNat ≤ maxVolume ∧ reorderB.toNat ≤ maxVolume ∧ 20 ≤ slowBand.toNat
        ∧ slowBand.toNat ≤ 2000 ∧ closeAhead.toNat ≤ 50 ∧ runOn.toNat ≤ 30 then
      some
        { reorder := ⟨reorderA.toNat, reorderB.toNat⟩, basis := ⟨ba, bb⟩, slowBand := slowBand.toNat
          closeAhead := closeAhead.toNat, runOn := runOn.toNat }
    else none
  | _, _ => none

/-- A reorder level that differs from the stored one arms the compartment and makes the restock test
(R129, R183). `old` is the level stored before. -/
def State.reorderChanged (s : State) (c : Comp) (old : Nat) : State :=
  if s.depot.reorder.get c = old then s
  else (s.modStock c fun x => { x with armed := true }).restockTest c

/-- The seven settings are stored together (R183). -/
def State.setDepot (s : State) (d : DepotSettings) : State :=
  (({ s with depot := d }).reorderChanged .a s.depot.reorder.a).reorderChanged .b s.depot.reorder.b

def ownSetDepot (reorderA reorderB : BitVec 32) (basisA basisB : Byte) (slowBand : BitVec 16)
    (closeAhead runOn : Byte) (s : State) : Answer :=
  match depotOf reorderA reorderB basisA basisB slowBand closeAhead runOn with
  | none => denied s .outOfRange
  | some d => accepted (s.setDepot d)

def doSetDepot (p : Port) (reorderA reorderB : BitVec 32) (basisA basisB : Byte) (slowBand : BitVec 16)
    (closeAhead runOn : Byte) (s : State) : State :=
  s.takeCommand p onDepot false (ownSetDepot reorderA reorderB basisA basisB slowBand closeAhead runOn)

def execSetDepot (p : Port) (reorderA reorderB : BitVec 32) (basisA basisB : Byte) (slowBand : BitVec 16)
    (closeAhead runOn : Byte) (s : State) : Host.Outcome State Fault Refusal :=
  (doSetDepot p reorderA reorderB basisA basisB slowBand closeAhead runOn s).finish

/-! ### Calibration writes (R176, R177) -/

/-- Steps 1 to 4 of an accepted write (R177): the store, the audit counter, the record, CALIBRATION. -/
def State.calWrite (s : State) (target : CalTarget) (old new : CalSummary)
    (store : Calibration → Calibration) : State :=
  ((s.modCal fun k => { store k with audit := k.audit + 1 }).appendDirect
    (.calibration ⟨target, old, new, s.cal.audit + 1, s.clock.counter⟩)).raise .calibration

/-- The checks of R176 in order, after check 1 and the target: range, busy, table, journal. -/
def State.calJudge (s : State) (inRange busy tableOk : Bool) (act : State) : Answer :=
  if !inRange then denied s .outOfRange
  else if busy then denied s .busy
  else if !tableOk then denied s .badTable
  else if s.journal.free = 0 then denied s .journalFull
  else accepted act

/-- Check 1 of R176 and step 1 of R180: CAL_ENABLE is asserted. -/
def State.unlocked (s : State) (f : Answer) : Answer :=
  if s.switches.calEnable then f else denied s .calLocked

/-- A slot on the compartment is not IDLE, or its receipt is not CLOSED (R176). -/
def State.compBusy (s : State) (c : Comp) : Bool := !s.compIdle c || (s.receipts.get c).state != .closed

/-- The channel under a new meter factor (R20, R178). A debt of 0 lies below the cap, so the REVERSE_EXCESS report
of R6 is armed again: the model's choice (log 40), as R20 and R178 name the debt and the remainder only. -/
def Channel.refactor (c : Channel) : Channel :=
  { c with
    debt := 0, excessReported := false
    unattributed := c.unattributed.map fun u => { u with remainder := 0 } }

def ownCalSetKq (hose : Byte) (kq : BitVec 16) (s : State) : Answer :=
  s.unlocked <|
    match hoseOf hose with
    | none => denied s .outOfRange
    | some h =>
      s.calJudge (200 ≤ kq.toNat && kq.toNat ≤ 20000) (s.slotState h != .idle) true
        ((s.calWrite (.kq h) (.value (s.cal.kq.get h)) (.value kq.toNat) fun k =>
          { k with kq := k.kq.set h kq.toNat }).modChan h fun c => c.refactor)

def doCalSetKq (p : Port) (hose : Byte) (kq : BitVec 16) (s : State) : State :=
  s.takeCommand p onDepot false (ownCalSetKq hose kq)

def execCalSetKq (p : Port) (hose : Byte) (kq : BitVec 16) (s : State) : Host.Outcome State Fault Refusal :=
  (doCalSetKq p hose kq s).finish

def ownCalSetAlpha (product : Byte) (alpha : BitVec 16) (s : State) : Answer :=
  s.unlocked <|
    match productOf product with
    | none => denied s .outOfRange
    | some c =>
      s.calJudge (alpha.toNat ≤ 2000) (!s.compIdle c) true
        (s.calWrite (.alpha c) (.value (s.cal.alpha.get c)) (.value alpha.toNat) fun k =>
          { k with alpha := k.alpha.set c alpha.toNat })

def doCalSetAlpha (p : Port) (product : Byte) (alpha : BitVec 16) (s : State) : State :=
  s.takeCommand p onDepot false (ownCalSetAlpha product alpha)

def execCalSetAlpha (p : Port) (product : Byte) (alpha : BitVec 16) (s : State) :
    Host.Outcome State Fault Refusal := (doCalSetAlpha p product alpha s).finish

/-- The consequences of a dead-stock write (R179): the cut flag, and the restock test where the write raised
the dead stock. -/
def State.deadStockWritten (s : State) (c : Comp) (old : Nat) : State :=
  let t := s.evaluateCut c
  if old < s.cal.dead.get c then t.restockTest c else t

def ownCalSetDeadStock (comp : Byte) (dead : BitVec 32) (s : State) : Answer :=
  s.unlocked <|
    match compOf comp with
    | none => denied s .outOfRange
    | some c =>
      s.calJudge (dead.toNat ≤ maxVolume) (s.compBusy c) true
        ((s.calWrite (.deadStock c) (.value (s.cal.dead.get c)) (.value dead.toNat) fun k =>
          { k with dead := k.dead.set c dead.toNat }).deadStockWritten c (s.cal.dead.get c))

def doCalSetDeadStock (p : Port) (comp : Byte) (dead : BitVec 32) (s : State) : State :=
  s.takeCommand p onDepot false (ownCalSetDeadStock comp dead)

def execCalSetDeadStock (p : Port) (comp : Byte) (dead : BitVec 32) (s : State) :
    Host.Outcome State Fault Refusal := (doCalSetDeadStock p comp dead s).finish

def ownCalSetHighHigh (comp : Byte) (level : BitVec 16) (s : State) : Answer :=
  s.unlocked <|
    match compOf comp with
    | none => denied s .outOfRange
    | some c =>
      s.calJudge (1 ≤ level.toNat) (s.compBusy c) true
        (s.calWrite (.highHigh c) (.value (s.cal.highHigh.get c)) (.value level.toNat) fun k =>
          { k with highHigh := k.highHigh.set c level.toNat })

def doCalSetHighHigh (p : Port) (comp : Byte) (level : BitVec 16) (s : State) : State :=
  s.takeCommand p onDepot false (ownCalSetHighHigh comp level)

def execCalSetHighHigh (p : Port) (comp : Byte) (level : BitVec 16) (s : State) :
    Host.Outcome State Fault Refusal := (doCalSetHighHigh p comp level s).finish

def ownCalSetTilt (limit : BitVec 16) (s : State) : Answer :=
  s.unlocked <|
    s.calJudge (1 ≤ limit.toNat && limit.toNat ≤ 450) false true
      (s.calWrite .tiltLimit (.value s.cal.tiltLimit) (.value limit.toNat) fun k =>
        { k with tiltLimit := limit.toNat }).reviewGauges

def doCalSetTilt (p : Port) (limit : BitVec 16) (s : State) : State :=
  s.takeCommand p onDepot false (ownCalSetTilt limit)

def execCalSetTilt (p : Port) (limit : BitVec 16) (s : State) : Host.Outcome State Fault Refusal :=
  (doCalSetTilt p limit s).finish

def ownCalSetTolerance (absolute ppm : BitVec 32) (s : State) : Answer :=
  s.unlocked <|
    s.calJudge (absolute.toNat ≤ maxVolume && ppm.toNat ≤ 1000000) false true
      (s.calWrite .varianceTolerance (.pair s.cal.tolAbsolute s.cal.tolPpm)
        (.pair absolute.toNat ppm.toNat) fun k =>
        { k with tolAbsolute := absolute.toNat, tolPpm := ppm.toNat })

def doCalSetTolerance (p : Port) (absolute ppm : BitVec 32) (s : State) : State :=
  s.takeCommand p onDepot false (ownCalSetTolerance absolute ppm)

def execCalSetTolerance (p : Port) (absolute ppm : BitVec 32) (s : State) : Host.Outcome State Fault Refusal :=
  (doCalSetTolerance p absolute ppm s).finish

/-! ### The strapping table (R180, R181) -/

/-- Levels and volumes strictly ascend from each point to the next (R181). -/
def ascends : List StrapPoint → Bool
  | [] => true
  | [_] => true
  | p :: q :: rest => p.level < q.level && p.gross < q.gross && ascends (q :: rest)

/-- The summary of a strapping table (R182). -/
def strapSummary (points : List StrapPoint) : CalSummary :=
  .table points.length ((points.getLast?.map (·.level)).getD 0) ((points.getLast?.map (·.gross)).getD 0)

/-- The staged table of the compartment passes the commit checks (R181). -/
def State.commitOk (s : State) (c : Comp) : Bool :=
  2 ≤ (s.cal.stagedPoints c).length && ascends (s.cal.stagedPoints c)

def ownCalStrapCommit (comp : Byte) (s : State) : Answer :=
  s.unlocked <|
    match compOf comp with
    | none => denied s .outOfRange
    | some c =>
      s.calJudge true (s.compBusy c) (s.commitOk c)
        (s.calWrite (.strapping c) (strapSummary (s.cal.strapping.get c))
          (strapSummary (s.cal.stagedPoints c)) fun k =>
          { k with strapping := k.strapping.set c (k.stagedPoints c), staged := none })

def doCalStrapCommit (p : Port) (comp : Byte) (s : State) : State :=
  s.takeCommand p onDepot false (ownCalStrapCommit comp)

def execCalStrapCommit (p : Port) (comp : Byte) (s : State) : Host.Outcome State Fault Refusal :=
  (doCalStrapCommit p comp s).finish

/-- The points a frame's points follow: none after a start mark; else those staged for the compartment,
absent where there are none (R180, step 3). -/
def Calibration.stagedBase (k : Calibration) (c : Comp) (start : Bool) : Option (List StrapPoint) :=
  if start then some []
  else
    match k.staged with
    | none => none
    | some t => if t.comp = c then some t.points else none

/-- Steps 3 and 4 of R180, then the staging. -/
def State.stage (s : State) (c : Comp) (start : Bool) (points : List StrapPoint) : Answer :=
  match s.cal.stagedBase c start with
  | none => denied s .outOfRange
  | some base =>
    if 32 < base.length + points.length then denied s .outOfRange
    else accepted (s.modCal fun k => { k with staged := some ⟨c, base ++ points⟩ })

/-- The frame carries as many points as a count of 1 to 8 says (R195, R202). -/
def strapFramed (count : Byte) (points : List WirePoint) : Bool :=
  count.toNat < 1 || 8 < count.toNat || points.length == count.toNat

def ownCalStrapLoad (comp start count : Byte) (points : List WirePoint) (s : State) : Answer :=
  s.unlocked <|
    match compOf comp, yesNoOf start with
    | some c, some mark =>
      if count.toNat < 1 || 8 < count.toNat || !points.all pointInRange then denied s .outOfRange
      else s.stage c mark (points.map pointOf)
    | _, _ => denied s .outOfRange

def doCalStrapLoad (p : Port) (comp start count : Byte) (points : List WirePoint) (s : State) : State :=
  if strapFramed count points then s.takeCommand p onDepot false (ownCalStrapLoad comp start count points)
  else s.turnAway p .badFrame

def execCalStrapLoad (p : Port) (comp start count : Byte) (points : List WirePoint) (s : State) :
    Host.Outcome State Fault Refusal := (doCalStrapLoad p comp start count points s).finish

/-! ### READ_CAL (R184) -/

/-- A table selector's answer (R184). -/
def State.readTable (s : State) (comp index : Byte) (table : Nat) (points : Comp → List StrapPoint) : Answer :=
  match compOf comp with
  | none => denied s .outOfRange
  | some c =>
    if 31 < index.toNat then denied s .outOfRange
    else answerWith s (calTable c table (points c) index.toNat)

def ownReadCal (selector comp index : Byte) (s : State) : Answer :=
  match selector.toNat with
  | 0 => answerWith s s.calGeneral
  | 1 => s.readTable comp index 1 fun c => s.cal.strapping.get c
  | 2 => s.readTable comp index 2 fun c => s.cal.stagedPoints c
  | _ => denied s .outOfRange

def doReadCal (p : Port) (selector comp index : Byte) (s : State) : State :=
  s.takeCommand p onDepot false (ownReadCal selector comp index)

def execReadCal (p : Port) (selector comp index : Byte) (s : State) : Host.Outcome State Fault Refusal :=
  (doReadCal p selector comp index s).finish

end Sys2Proof.Machine
end

