-- ==== Sys2Proof/Machine/FieldHose.lean ====
section
/-! DEFINITION. Events of the nozzles, the emergency stop, the park brake and the hose timers. -/

namespace Sys2Proof.Machine

open Sys2Proof

/-! ### Nozzles (R39, R95) -/

def State.setNozzle (s : State) (h : Hose) (inBoot : Bool) : State :=
  { s with switches := { s.switches with nozzleIn := s.switches.nozzleIn.set h inBoot } }

/-- The slot opens in IDENT with its fields at their defaults (R95). -/
def State.openSlot (s : State) (h : Hose) : State :=
  (s.modSlot h fun _ => { Slot.fresh with identTimer := s.timer 120000 }).setSlotState h .ident

/-- A lift with the lift armed and the slot IDLE disarms it, wakes the nozzle reader (R51) and opens the
slot; any other lift is handed to neither (R39). -/
def State.takeLift (s : State) (h : Hose) : State :=
  if (s.hoseCtl.get h).liftArmed && s.slotState h == .idle then
    ((s.modHoseCtl h fun c => { c with liftArmed := false }).startQualifying (.nr h)).openSlot h
  else s

/-- NOZZLE_LIFT; while the supply is SAVED it moves the level alone (R49). -/
def execNozzleLift (h : Hose) (s : State) : Host.Outcome State Fault Refusal :=
  (if s.switches.nozzleIn.get h = false then s
  else
    let t := s.setNozzle h false
    if s.isNormal then t.takeLift h else t).finish

/-- What ends a slot at once (R39, R40): a running one enters CLOSING with the cause, one before READY is
abandoned. -/
def State.endSlot (s : State) (h : Hose) (cause : EndCause) : State := (s.enterClosing h cause).abandon h

/-- NOZZLE_RETURN (R39): it arms the lift and ends the slot; a variance check may then be due (R130). -/
def execNozzleReturn (h : Hose) (s : State) : Host.Outcome State Fault Refusal :=
  (if s.switches.nozzleIn.get h then s
  else
    let t := s.setNozzle h true
    if s.isNormal then
      let u := (t.modHoseCtl h fun c => { c with liftArmed := true }).endSlot h .nozzleReturned
      if (s.slotState h).waiting then u.checkVariance (hoseComp h) else u
    else t).finish

/-! ### Emergency stop (R40, R146) -/

def State.setEstop (s : State) (b : Bool) : State := { s with switches := { s.switches with estop := b } }

/-- A FILLING receipt is ended with ABORTED (R146). -/
def State.stopFill (s : State) (c : Comp) : State :=
  if (s.receipts.get c).state = .filling then s.abortFill c else s

/-- The assertion acts on every slot and every receipt at once (R40, R146). -/
def State.stopAll (s : State) : State :=
  let t := (s.modPump .a fun p => { p with runOn := none }).modPump .b fun p => { p with runOn := none }
  let t := ((t.endSlot .h1 .estop).endSlot .h2 .estop).endSlot .h3 .estop
  ((t.stopFill .a).stopFill .b).checkVariances

/-- ESTOP_ASSERT; while the supply is SAVED it moves the level and raises the event alone (R49). -/
def execEstopAssert (s : State) : Host.Outcome State Fault Refusal :=
  (if s.switches.estop then s
  else
    let t := (s.setEstop true).raise .estop
    if s.isNormal then t.stopAll else t).finish

/-- ESTOP_RELEASE lifts the forcing and nothing more (R40). -/
def execEstopRelease (s : State) : Host.Outcome State Fault Refusal :=
  (if s.switches.estop then (s.setEstop false).raise .estop else s).finish

/-! ### Park brake (R41, R123) -/

def State.setBrake (s : State) (released : Bool) : State :=
  { s with switches := { s.switches with brakeReleased := released } }

/-- MOTION joins the hold set of a slot in READY, FLOWING, SLOWING or PAUSED (R41). -/
def State.holdMotion (s : State) (h : Hose) : State :=
  if (s.slotState h).running then s.addHold h .motion else s

/-- The level histories are emptied (R123). -/
def State.emptyHistories (s : State) : State :=
  (s.modGauge .a fun g => { g with history := [] }).modGauge .b fun g => { g with history := [] }

/-- PARK_BRAKE_RELEASE: holds, histories and gauge states; while the supply is SAVED no slot is acted on
(R49) but the gauges are (R134). -/
def execParkBrakeRelease (s : State) : Host.Outcome State Fault Refusal :=
  (if s.switches.brakeReleased then s
  else
    let t := s.setBrake true
    let t := if s.isNormal then ((t.holdMotion .h1).holdMotion .h2).holdMotion .h3 else t
    t.emptyHistories.reviewGauges).finish

/-- PARK_BRAKE_SET: MOTION leaves every hold set (R41), and the gauge states are re-evaluated (R123). The level
histories, empty since the release (log 47), have ten levels to take before a gauge can be VALID (R125). -/
def execParkBrakeSet (s : State) : Host.Outcome State Fault Refusal :=
  (if s.switches.brakeReleased then
    let t := s.setBrake false
    let t :=
      if s.isNormal then ((t.removeHold .h1 .motion).removeHold .h2 .motion).removeHold .h3 .motion else t
    t.reviewGauges
  else s).finish

/-! ### Hose timers -/

/-- The return from FLOWING to READY (R29): both valves stay open and the no-flow timer runs on; the leak
window is emptied and detection re-armed (R46). -/
def State.flowStopped (s : State) (h : Hose) : State :=
  (s.modHoseCtl h fun c => { c with flowWindow := [], leakWindow := [], leakArmed := true }).setSlotState h .ready

/-- FLOW_STOP_EXPIRY (R29). -/
def execFlowStopExpiry (h : Hose) (s : State) : Host.Outcome State Fault Refusal :=
  (if (s.hoseCtl.get h).flowStop.isSome then
    let t := s.modHoseCtl h fun c => { c with flowStop := none }
    if s.slotState h = .flowing then t.flowStopped h else t
  else s).finish

/-- NO_FLOW_EXPIRY (R30). -/
def execNoFlowExpiry (h : Hose) (s : State) : Host.Outcome State Fault Refusal :=
  (if (s.hoseCtl.get h).noFlow.isSome then
    let t := s.modHoseCtl h fun c => { c with noFlow := none }
    if (s.slotState h).delivers then t.enterClosing h .noFlow else t
  else s).finish

/-- PAUSE_TIMER_EXPIRY (R36). -/
def execPauseTimerExpiry (h : Hose) (s : State) : Host.Outcome State Fault Refusal :=
  (if (s.hoseCtl.get h).pause.isSome then
    let t := s.modHoseCtl h fun c => { c with pause := none }
    if s.slotState h = .paused then t.enterClosing h .pauseLimit else t
  else s).finish

/-- SETTLE_TIMER_EXPIRY (R32, R111): completion, then a variance check where one falls due (R130). -/
def execSettleTimerExpiry (h : Hose) (s : State) : Host.Outcome State Fault Refusal :=
  (if (s.hoseCtl.get h).settle.isSome then
    let t := s.modHoseCtl h fun c => { c with settle := none }
    if s.slotState h = .closing then (t.complete h (s.liveCompletion h)).checkVariance (hoseComp h) else t
  else s).finish

/-- RUN_ON_EXPIRY (R42): the pump stops. -/
def execRunOnExpiry (c : Comp) (s : State) : Host.Outcome State Fault Refusal :=
  (s.modPump c fun p => { p with runOn := none }).finish

end Sys2Proof.Machine
end

