-- ==== Sys2Proof/Machine/FieldMeter.lean ====
section
/-! DEFINITION. Events of the meter heads and product probes: PULSE_EDGE, TEMPERATURE_SAMPLE,
SAMPLE_ABSENCE_EXPIRY, HOLD_TIMER_EXPIRY. -/

namespace Sys2Proof.Machine

open Sys2Proof

/-- PULSE_EDGE (R3): the taking also tells the time (log 2). -/
def execPulseEdge (h : Hose) (line : MeterLine) (high : Bool) (time : Nat) (s : State) :
    Host.Outcome State Fault Refusal :=
  (({ s with now := max s.now time }).takeEdge h line high).finish

/-- TEMPERATURE_SAMPLE (R9, R10), in either supply state (R13). -/
def execTemperatureSample (h : Hose) (valid : Bool) (temp : Int) (s : State) :
    Host.Outcome State Fault Refusal :=
  (s.modChan h fun c =>
    if valid then c.validSample temp (s.timer 1000)
    else { c.loseSample (s.timer 10000) with absenceTimer := s.timer 1000 }).finish

/-- SAMPLE_ABSENCE_EXPIRY (R10). -/
def execSampleAbsenceExpiry (h : Hose) (s : State) : Host.Outcome State Fault Refusal :=
  (if (s.chan.get h).absenceTimer.isSome then
    s.modChan h fun c => { c.loseSample (s.timer 10000) with absenceTimer := none }
  else s).finish

/-- HOLD_TIMER_EXPIRY (R11). -/
def execHoldTimerExpiry (h : Hose) (s : State) : Host.Outcome State Fault Refusal :=
  (if (s.chan.get h).holdTimer.isSome then
    s.modChan h fun c =>
      { c with holdTimer := none, tempState := if c.tempState = .holding then .substituted else c.tempState }
  else s).finish

end Sys2Proof.Machine
end

