-- ==== Sys2Proof/Machine/FieldReaders.lean ====
section
/-! DEFINITION. Events of the tag readers, the logoff timer and the supervisor window. Poll results and
field reports are not acted on while the supply is SAVED (R69). -/

namespace Sys2Proof.Machine

open Sys2Proof

/-- FIELD_UNSETTLED (R51): the stable-field timer restarts. -/
def execFieldUnsettled (r : Reader) (s : State) : Host.Outcome State Fault Refusal :=
  (if s.isNormal && (s.reader r).link == .qualifying then
    s.modReader r fun x => { x with stableTimer := s.timer 250 }
  else s).finish

/-- STABLE_FIELD_EXPIRY (R51): the reader enters LISTENING. -/
def execStableFieldExpiry (r : Reader) (s : State) : Host.Outcome State Fault Refusal :=
  (if (s.reader r).stableTimer.isSome && (s.reader r).link == .qualifying then
    s.modReader r fun x =>
      { x with link := .listening, stableTimer := none, qualifyLimit := none, pollTimer := s.timer 200 }
  else s).finish

/-- QUALIFY_LIMIT_EXPIRY (R51): the reader enters FAULT. -/
def execQualifyLimitExpiry (r : Reader) (s : State) : Host.Outcome State Fault Refusal :=
  (if (s.reader r).qualifyLimit.isSome && (s.reader r).link == .qualifying then s.enterFault r else s).finish

/-- FRONT_END_FAULT (R51). While the supply is SAVED it is taken as one of R69's field reports and not acted on, PR's
in QUALIFYING too: the model's choice (log 43). -/
def execFrontEndFault (r : Reader) (s : State) : Host.Outcome State Fault Refusal :=
  (if s.isNormal then s.enterFault r else s).finish

/-- FIELD_LOST (R52): from LISTENING or TAG_PRESENT back to QUALIFYING. The page fetch is cleared, and where it was
that of a waiting slot's own tag this ends no exchange in the sense of R55: an hours page already received is not
handed on under R58. That is the model's choice (log 48). -/
def execFieldLost (r : Reader) (s : State) : Host.Outcome State Fault Refusal :=
  (if s.isNormal && (s.reader r).link.polls then (s.discardPending r).startQualifying r else s).finish

/-- RETRY_TIMER_EXPIRY (R52): PR qualifies again. -/
def execRetryTimerExpiry (s : State) : Host.Outcome State Fault Refusal :=
  (if s.panelReader.retryTimer.isSome && s.panelReader.link == .fault then s.startQualifying .pr else s).finish

/-- POLL_TIMER_EXPIRY (R53): a poll is made and the timer restarts; its result is POLL_RESULT. -/
def execPollTimerExpiry (r : Reader) (s : State) : Host.Outcome State Fault Refusal :=
  (if (s.reader r).pollTimer.isSome && (s.reader r).link.polls then
    s.modReader r fun x => { x with pollTimer := s.timer 200 }
  else s).finish

/-- POLL_RESULT (R53 to R58, R64 to R68): a page whose check byte is wrong is no answer (R201). -/
def execPollResult (r : Reader) (a : PollAnswer) (s : State) : Host.Outcome State Fault Refusal :=
  (if s.isNormal then s.takePoll r (checkedAnswer a) else s).finish

/-- TRACKING_MISS_INTERVAL (R64): a reader that is not polling gives a miss. -/
def execTrackingMissInterval (h : Hose) (s : State) : Host.Outcome State Fault Refusal :=
  (if s.isNormal && (s.tracking.get h).running && !(s.nozzleReader.get h).link.polls then s.trackingMiss h
  else s).finish

/-- TAG_RESTORE_EXPIRY (R65). -/
def execTagRestoreExpiry (h : Hose) (s : State) : Host.Outcome State Fault Refusal :=
  (if (s.tracking.get h).restoreWindow.isSome then
    let t := s.modTracking h fun k => { k with restoreWindow := none }
    if (s.slots.get h).holds.tagLost && s.slotState h == .paused then t.enterClosing h .tagNotRestored else t
  else s).finish

/-- LOGOFF_TIMER_EXPIRY (R67). -/
def execLogoffTimerExpiry (s : State) : Host.Outcome State Fault Refusal :=
  (if s.logoffTimer.isSome then ({ s with logoffTimer := none }).logOff else s).finish

/-- SUPERVISOR_WINDOW_EXPIRY (R68). -/
def execSupervisorWindowExpiry (s : State) : Host.Outcome State Fault Refusal :=
  (if s.supervisor.isSome then ({ s with supervisor := none }).setTagEvent .pr .supervisorClosed none
  else s).finish

end Sys2Proof.Machine
end

