-- ==== Sys2Proof/Machine/FieldSlots.lean ====
section
/-! DEFINITION. Expiries of the slots' timers and of the roster waits, and the Site Clock's tick. -/

namespace Sys2Proof.Machine

open Sys2Proof

/-- IDENT, LOOKUP or HOURS_WAIT: where the identification timer's expiry abandons the slot (R96). -/
def SlotState.timed : SlotState → Bool
  | .ident | .lookup | .hoursWait => true
  | _ => false

/-- IDENTIFICATION_TIMER_EXPIRY (R96, R109), then a variance check where one falls due (R130). -/
def execIdentificationTimerExpiry (h : Hose) (s : State) : Host.Outcome State Fault Refusal :=
  (if (s.slots.get h).identTimer.isSome && (s.slotState h).timed then
    (s.abandon h).checkVariance (hoseComp h)
  else s).finish

/-- OVERRIDE_WINDOW_EXPIRY (R96, R109), then a variance check where one falls due (R130). -/
def execOverrideWindowExpiry (h : Hose) (s : State) : Host.Outcome State Fault Refusal :=
  (if (s.slots.get h).overrideTimer.isSome && s.slotState h == .overrideWait then
    (s.abandon h).checkVariance (hoseComp h)
  else s).finish

/-- A slot of the expired request's waiting set goes to OVERRIDE_WAIT (R81). -/
def State.expireWaiter (s : State) (wanted : Bool) (h : Hose) : State :=
  if wanted && s.slotState h == .lookup then s.enterOverrideWait h else s

/-- The machine's request leaves the list and its waiting slots go to OVERRIDE_WAIT in the order H1, H2, H3
(R81). -/
def State.expireRequest (s : State) (m : Nat) : State :=
  let waits (h : Hose) : Bool := s.roster.waitsOn m h
  (((s.modRoster fun r => r.removeRequest m).expireWaiter (waits .h1) .h1).expireWaiter (waits .h2)
    .h2).expireWaiter (waits .h3) .h3

/-- ROSTER_WAIT_EXPIRY (R81), also while the supply is SAVED (R93). -/
def execRosterWaitExpiry (machine : BitVec 24) (s : State) : Host.Outcome State Fault Refusal :=
  (if (s.roster.requestOf machine.toNat).isSome then s.expireRequest machine.toNat else s).finish

/-- The last second the counter can show (R90). -/
def clockEnd : Nat := 4294967295

/-- CLOCK_TICK (R90, R91): the part's own time moves to its next whole second (log 2). -/
def execClockTick (s : State) : Host.Outcome State Fault Refusal :=
  let t := { s with now := (s.now / 1000 + 1) * 1000 }
  (if s.clock.counter < clockEnd then
    ({ t with clock := { s.clock with counter := s.clock.counter + 1 } }).checkRollover
  else t).finish

end Sys2Proof.Machine
end

