-- ==== Sys2Proof/Machine/FieldSupply.lean ====
section
/-! DEFINITION. Events of the calibration switch and of the supply: CAL_ENABLE_ASSERT, CAL_ENABLE_RELEASE,
ENTRY_TO_SAVED, RIDE_THROUGH, POWER_ON. -/

namespace Sys2Proof.Machine

open Sys2Proof

def State.setCalEnable (s : State) (b : Bool) : State := { s with switches := { s.switches with calEnable := b } }

/-- CAL_ENABLE_ASSERT (R175). -/
def execCalEnableAssert (s : State) : Host.Outcome State Fault Refusal :=
  (if s.switches.calEnable then s else (s.setCalEnable true).raise .calibration).finish

/-- CAL_ENABLE_RELEASE (R175): the staged table is emptied. -/
def execCalEnableRelease (s : State) : Host.Outcome State Fault Refusal :=
  (if s.switches.calEnable then
    ((s.setCalEnable false).modCal fun k => { k with staged := none }).raise .calibration
  else s).finish

/-- ENTRY_TO_SAVED (R186, R187). -/
def execEntryToSaved (s : State) : Host.Outcome State Fault Refusal :=
  (if s.isNormal then s.enterSaved else s).finish

/-- RIDE_THROUGH (R186, R189). -/
def execRideThrough (s : State) : Host.Outcome State Fault Refusal :=
  (if s.isNormal then s else s.returnToNormal).finish

/-- POWER_ON (R192). -/
def execPowerOn (lines : PerHose LineLevels) (switches : Switches) (s : State) :
    Host.Outcome State Fault Refusal := (s.powerUp lines switches).finish

end Sys2Proof.Machine
end

