-- ==== Sys2Proof/Machine/AllPorts.lean ====
section
/-! DEFINITION. The commands that all three ports accept: READ_STATUS, READ_STOCK, READ_EVENTS,
SET_EVENT_MASK. -/

namespace Sys2Proof.Machine

open Sys2Proof

/-- READ_STATUS (R186), answered in either supply state (R188). -/
def ownReadStatus (s : State) : Answer := answerWith s s.statusPayload

def doReadStatus (p : Port) (s : State) : State := s.takeCommand p onAny true ownReadStatus

def execReadStatus (p : Port) (s : State) : Host.Outcome State Fault Refusal := (doReadStatus p s).finish

/-- READ_STOCK (R135). -/
def ownReadStock (s : State) : Answer := answerWith s s.stockPayload

def doReadStock (p : Port) (s : State) : State := s.takeCommand p onAny false ownReadStock

def execReadStock (p : Port) (s : State) : Host.Outcome State Fault Refusal := (doReadStock p s).finish

/-- READ_EVENTS (R199): the latched flags with their details are returned, and exactly they are cleared. -/
def ownReadEvents (p : Port) (s : State) : Answer :=
  answerWith (s.modPort p fun x => { x with latched := 0 }) (s.eventsPayload p)

def doReadEvents (p : Port) (s : State) : State := s.takeCommand p onAny false (ownReadEvents p)

def execReadEvents (p : Port) (s : State) : Host.Outcome State Fault Refusal := (doReadEvents p s).finish

/-- SET_EVENT_MASK (R200): bits beyond the port's flag count must be 0. -/
def ownSetEventMask (p : Port) (mask : BitVec 16) (s : State) : Answer :=
  if 2 ^ flagCount p ≤ mask.toNat then denied s .outOfRange
  else accepted (s.modPort p fun x => { x with mask := mask })

def doSetEventMask (p : Port) (mask : BitVec 16) (s : State) : State :=
  s.takeCommand p onAny false (ownSetEventMask p mask)

def execSetEventMask (p : Port) (mask : BitVec 16) (s : State) : Host.Outcome State Fault Refusal :=
  (doSetEventMask p mask s).finish

end Sys2Proof.Machine
end

