-- ==== Sys2Proof/Machine/Office.lean ====
section
/-! DEFINITION. The Office commands: the roster, quick codes, prices, accounts, collection, stock
adjustment, clock and site settings. -/

namespace Sys2Proof.Machine

open Sys2Proof

/-! ### LOAD_ROSTER (R76 to R78) -/

/-- Two entries of a frame name one machine (R76). -/
def repeatsMachine : List EntryBody → Bool
  | [] => false
  | b :: bs => bs.any (fun x => x.machine == b.machine) || repeatsMachine bs

/-- The slots an answer of the office reaches (R78, R79): one in LOOKUP that waited on the machine's request,
and one in OVERRIDE_WAIT for the machine. -/
def State.waitsFor (s : State) (m : Nat) (wanted : Bool) (h : Hose) : Bool :=
  match s.slotState h with
  | .lookup => wanted
  | .overrideWait => (s.slots.get h).machine == some m
  | _ => false

/-- The slot is given the machine's entry as the cache then holds it (R78). -/
def State.giveLoaded (s : State) (m : Nat) (wanted : Bool) (h : Hose) : State :=
  if s.waitsFor m wanted h then
    match s.roster.findWay m with
    | some w => s.giveEntry h w
    | none => s
  else s

/-- A loaded entry answers the machine's request and its waiting slots, in the order H1, H2, H3 (R78). -/
def State.answerWaiting (s : State) (m : Nat) : State :=
  let waits (h : Hose) : Bool := s.roster.waitsOn m h
  (((s.modRoster fun r => r.removeRequest m).giveLoaded m (waits .h1) .h1).giveLoaded m (waits .h2)
    .h2).giveLoaded m (waits .h3) .h3

/-- One entry of the frame is applied (R76) and answers what waits for it. -/
def State.loadEntry (s : State) (b : EntryBody) : State :=
  (s.modRoster fun r => r.load b).answerWaiting b.machine

/-- The frame carries as many entries as a count of 1 to 4 says (R195). -/
def rosterFramed (count : Byte) (entries : List WireEntry) : Bool :=
  count.toNat < 1 || 4 < count.toNat || entries.length == count.toNat

def ownLoadRoster (count : Byte) (entries : List WireEntry) (s : State) : Answer :=
  if count.toNat < 1 ∨ 4 < count.toNat then denied s .outOfRange
  else
    match entriesOf entries with
    | none => denied s .outOfRange
    | some bodies =>
      if repeatsMachine bodies then denied s .outOfRange
      else accepted (bodies.foldl State.loadEntry s)

def doLoadRoster (p : Port) (count : Byte) (entries : List WireEntry) (s : State) : State :=
  if rosterFramed count entries then s.takeCommand p onOffice false (ownLoadRoster count entries)
  else s.turnAway p .badFrame

def execLoadRoster (p : Port) (count : Byte) (entries : List WireEntry) (s : State) :
    Host.Outcome State Fault Refusal := (doLoadRoster p count entries s).finish

/-! ### NOT_ON_ROSTER and DROP_ROSTER (R79) -/

/-- The slot gains OFFICE_REJECTED where it references the machine's entry and that entry is PROVISIONAL
(R79). -/
def State.rejectProvisional (s : State) (w : WayRef) (h : Hose) : State :=
  if (s.slots.get h).entry = some w then
    s.modSlot h fun x => { x with flags := { x.flags with officeRejected := true } }
  else s

/-- NOT_ON_ROSTER's mark on the slots of a pinned PROVISIONAL entry (R79; log 20). -/
def State.markRejected (s : State) (m : Nat) : State :=
  match s.roster.findWay m with
  | none => s
  | some w =>
    match s.roster.entryAt w with
    | none => s
    | some e =>
      if e.origin = .provisional then
        ((s.rejectProvisional w .h1).rejectProvisional w .h2).rejectProvisional w .h3
      else s

/-- A slot that waits for the machine is refused NOT_ON_ROSTER (R79, R104). -/
def State.refuseUnlisted (s : State) (m : Nat) (wanted : Bool) (h : Hose) : State :=
  if s.waitsFor m wanted h then
    s.refuse h .notOnRoster
  else s

/-- NOT_ON_ROSTER's effect (R79). -/
def State.notOnRoster (s : State) (m : Nat) : State :=
  let waits (h : Hose) : Bool := s.roster.waitsOn m h
  ((((s.markRejected m).modRoster fun r => (r.dropMachine m).removeRequest m).refuseUnlisted m (waits .h1)
    .h1).refuseUnlisted m (waits .h2) .h2).refuseUnlisted m (waits .h3) .h3

def ownNotOnRoster (machine : BitVec 24) (s : State) : Answer :=
  if machineInRange machine.toNat then accepted (s.notOnRoster machine.toNat) else denied s .outOfRange

def doNotOnRoster (p : Port) (machine : BitVec 24) (s : State) : State :=
  s.takeCommand p onOffice false (ownNotOnRoster machine)

def execNotOnRoster (p : Port) (machine : BitVec 24) (s : State) : Host.Outcome State Fault Refusal :=
  (doNotOnRoster p machine s).finish

def ownDropRoster (machine : BitVec 24) (s : State) : Answer :=
  if machineInRange machine.toNat then accepted (s.modRoster fun r => r.dropMachine machine.toNat)
  else denied s .outOfRange

def doDropRoster (p : Port) (machine : BitVec 24) (s : State) : State :=
  s.takeCommand p onOffice false (ownDropRoster machine)

def execDropRoster (p : Port) (machine : BitVec 24) (s : State) : Host.Outcome State Fault Refusal :=
  (doDropRoster p machine s).finish

/-! ### SET_QUICK_CODE (R85) and SET_PRICE (R114) -/

def ownSetQuickCode (code : Byte) (machine : BitVec 24) (s : State) : Answer :=
  match quickCodeOf code.toNat with
  | none => denied s .outOfRange
  | some k =>
    if machine.toNat = 0 ∨ machineInRange machine.toNat then
      accepted (s.modRoster fun r =>
        { r with
          quickCodes :=
            r.quickCodes.set k.val (if machine.toNat = 0 then none else some machine.toNat) k.isLt })
    else denied s .outOfRange

def doSetQuickCode (p : Port) (code : Byte) (machine : BitVec 24) (s : State) : State :=
  s.takeCommand p onOffice false (ownSetQuickCode code machine)

def execSetQuickCode (p : Port) (code : Byte) (machine : BitVec 24) (s : State) :
    Host.Outcome State Fault Refusal := (doSetQuickCode p code machine s).finish

def ownSetPrice (product : Byte) (price : BitVec 24) (s : State) : Answer :=
  match productOf product with
  | none => denied s .outOfRange
  | some c =>
    if 99999 < price.toNat then denied s .outOfRange
    else accepted { s with prices := s.prices.set c price.toNat }

def doSetPrice (p : Port) (product : Byte) (price : BitVec 24) (s : State) : State :=
  s.takeCommand p onOffice false (ownSetPrice product price)

def execSetPrice (p : Port) (product : Byte) (price : BitVec 24) (s : State) :
    Host.Outcome State Fault Refusal := (doSetPrice p product price s).finish

/-! ### SET_ACCOUNT, READ_ACCOUNTS, RESET_PERIOD (R88, R89) -/

/-- SET_ACCOUNT's effect on an entry, by the code it carries (R88). -/
def Account.write (a : Account) (code : Nat) (cap : Option Nat) : Account :=
  if code = 0 then Account.unused
  else if code = a.code then { a with dayCap := cap.map fun v => max v a.dayCharged }
  else { Account.unused with code := code, dayCap := cap }

/-- A slot from READY to CLOSING holds the index as its account index (R88). -/
def State.accountBusy (s : State) (i : Fin 32) : Bool :=
  allHoses.any fun h => (s.slotState h).authorised && (s.slots.get h).account == some i

/-- A day cap above 99,999,999 cL (R88). -/
def capTooGreat (cap : BitVec 32) : Bool :=
  match capOf cap with
  | none => false
  | some v => maxVolume < v

def ownSetAccount (index : Byte) (code cap : BitVec 32) (s : State) : Answer :=
  match accountOf index with
  | none => denied s .outOfRange
  | some i =>
    if capTooGreat cap then denied s .outOfRange
    else if s.accountBusy i then denied s .busy
    else accepted (s.modRoster fun r => r.modAccount i fun a => a.write code.toNat (capOf cap))

def doSetAccount (p : Port) (index : Byte) (code cap : BitVec 32) (s : State) : State :=
  s.takeCommand p onOffice false (ownSetAccount index code cap)

def execSetAccount (p : Port) (index : Byte) (code cap : BitVec 32) (s : State) :
    Host.Outcome State Fault Refusal := (doSetAccount p index code cap s).finish

def ownReadAccounts (index : Byte) (s : State) : Answer :=
  match accountOf index with
  | none => denied s .outOfRange
  | some i => answerWith s (s.accountsPayload i)

def doReadAccounts (p : Port) (index : Byte) (s : State) : State :=
  s.takeCommand p onOffice false (ownReadAccounts index)

def execReadAccounts (p : Port) (index : Byte) (s : State) : Host.Outcome State Fault Refusal :=
  (doReadAccounts p index s).finish

/-- The period totals of an account are set to 0 (R89). -/
def Account.resetPeriod (a : Account) : Account := { a with periodNet := 0, periodAmount := 0, periodCount := 0 }

def ownResetPeriod (index : Byte) (s : State) : Answer :=
  match accountOf index with
  | none => denied s .outOfRange
  | some i =>
    answerWith (s.modRoster fun r => r.modAccount i Account.resetPeriod) (s.periodPayload i)

def doResetPeriod (p : Port) (index : Byte) (s : State) : State :=
  s.takeCommand p onOffice false (ownResetPeriod index)

def execResetPeriod (p : Port) (index : Byte) (s : State) : Host.Outcome State Fault Refusal :=
  (doResetPeriod p index s).finish

/-! ### Collection (R168 to R170) -/

/-- The cursor advances past the records READ_NEXT returns (R168). -/
def Journal.advance (j : Journal) : Journal := { j with cursor := j.cursor + j.nextRecords.length }

def ownReadNext (s : State) : Answer :=
  let rs := s.journal.nextRecords
  let t := s.modJournal Journal.advance
  answerWith t (t.journal.summary ++ field 1 rs.length ++ rs.flatMap JournalRecord.bytes)

def doReadNext (p : Port) (s : State) : State := s.takeCommand p onOffice false ownReadNext

def execReadNext (p : Port) (s : State) : Host.Outcome State Fault Refusal := (doReadNext p s).finish

/-- READ_FROM (R169): a number above the next sets the cursor to the next as it stands when the command is
taken. R171 says that a READ_FROM and an append give the same cursor in either order, which R169 denies for
such a number: R169 is followed (log 39). -/
def ownReadFrom (seq : BitVec 32) (s : State) : Answer :=
  accepted (s.modJournal fun j => { j with cursor := max j.oldest (min seq.toNat j.next) })

def doReadFrom (p : Port) (seq : BitVec 32) (s : State) : State :=
  s.takeCommand p onOffice false (ownReadFrom seq)

def execReadFrom (p : Port) (seq : BitVec 32) (s : State) : Host.Outcome State Fault Refusal :=
  (doReadFrom p seq s).finish

def ownCollected (seq : BitVec 32) (s : State) : Answer :=
  if s.journal.next ≤ seq.toNat then denied s .outOfRange
  else if seq.toNat < s.journal.oldest then answerWith s s.journal.summary
  else
    let t := s.releaseRecords seq.toNat
    answerWith t t.journal.summary

def doCollected (p : Port) (seq : BitVec 32) (s : State) : State :=
  s.takeCommand p onOffice false (ownCollected seq)

def execCollected (p : Port) (seq : BitVec 32) (s : State) : Host.Outcome State Fault Refusal :=
  (doCollected p seq s).finish

/-! ### ADJUST_STOCK (R132, R133) -/

/-- The delta lies outside −99,999,999 … +99,999,999, is 0, or takes book stock past ±2^39 (R132). -/
def State.deltaRefused (s : State) (c : Comp) (delta : Int) : Bool :=
  delta == 0 || maxVolume < delta.natAbs || bookLimit < ((s.stock.get c).book + delta).natAbs

/-- An accepted adjustment (R133). -/
def State.adjustStock (s : State) (c : Comp) (delta : Int) (reason : Byte) : State :=
  let t := s.modStock c fun x =>
    { x with
      book := x.book + delta
      adjusted := ((x.adjusted + delta) % counterModulus).toNat }
  let t := t.appendDirect (.adjustment ⟨c, delta, reason, (t.stock.get c).book, s.clock.counter⟩)
  let t := t.evaluateCut c
  if delta < 0 then t.restockTest c else t.rearmTest c

def ownAdjustStock (comp : Byte) (delta : BitVec 32) (reason : Byte) (s : State) : Answer :=
  match compOf comp with
  | none => denied s .outOfRange
  | some c =>
    if s.deltaRefused c delta.toInt then denied s .outOfRange
    else if s.journal.free = 0 then denied s .journalFull
    else accepted (s.adjustStock c delta.toInt reason)

def doAdjustStock (p : Port) (comp : Byte) (delta : BitVec 32) (reason : Byte) (s : State) : State :=
  s.takeCommand p onOffice false (ownAdjustStock comp delta reason)

def execAdjustStock (p : Port) (comp : Byte) (delta : BitVec 32) (reason : Byte) (s : State) :
    Host.Outcome State Fault Refusal := (doAdjustStock p comp delta reason s).finish

/-! ### SET_CLOCK (R90) and SET_SITE (R92) -/

def ownSetClock (time : BitVec 32) (s : State) : Answer :=
  accepted ({ s with clock := { counter := time.toNat, valid := true } }).checkRollover

def doSetClock (p : Port) (time : BitVec 32) (s : State) : State :=
  s.takeCommand p onOffice false (ownSetClock time)

def execSetClock (p : Port) (time : BitVec 32) (s : State) : Host.Outcome State Fault Refusal :=
  (doSetClock p time s).finish

/-- The settings SET_SITE carries, absent when a value lies outside its range (R92). -/
def siteOf (hour : Byte) (cap : BitVec 24) (account required : Byte) : Option SiteSettings :=
  match accountOf account, yesNoOf required with
  | some i, some q =>
    if hour.toNat ≤ 23 ∧ 100 ≤ cap.toNat ∧ cap.toNat ≤ 999999 then some ⟨hour.toNat, cap.toNat, i, q⟩ else none
  | _, _ => none

def ownSetSite (hour : Byte) (cap : BitVec 24) (account required : Byte) (s : State) : Answer :=
  match siteOf hour cap account required with
  | none => denied s .outOfRange
  | some site => accepted (s.modRoster fun r => { r with site := site }).checkRollover

def doSetSite (p : Port) (hour : Byte) (cap : BitVec 24) (account required : Byte) (s : State) : State :=
  s.takeCommand p onOffice false (ownSetSite hour cap account required)

def execSetSite (p : Port) (hour : Byte) (cap : BitVec 24) (account required : Byte) (s : State) :
    Host.Outcome State Fault Refusal := (doSetSite p hour cap account required s).finish

end Sys2Proof.Machine
end

