-- ==== Sys2Proof/Machine/Panel.lean ====
section
/-! DEFINITION. The Panel commands: IDENTIFY, SET_PRESET, ENTER_HOURS, HOLD, RESUME, STOP, ACK_EXCEPTION,
READ_HOSE, LOGOFF, RESTART. -/

namespace Sys2Proof.Machine

open Sys2Proof

/-- A command that names a hose: outside 1 … 3 it is OUT_OF_RANGE. -/
def forHose (b : Byte) (s : State) (f : Hose → Answer) : Answer :=
  match hoseOf b with
  | none => denied s .outOfRange
  | some h => f h

/-! ### IDENTIFY (R59) -/

/-- A manual identification: inlet product, hours and tank capacity absent (R59). -/
def manualIdentification (m : Nat) (method : Method) : Identification :=
  { machine := m, method := method, inlet := none, tank := none, hours := none }

/-- The identification IDENTIFY names by mode and number, or the status it is refused with (R59). -/
def State.manualIdentity (s : State) (mode : Byte) (number : BitVec 24) : Except Status Identification :=
  match mode.toNat with
  | 0 =>
    match quickCodeOf number.toNat with
    | none => .error .outOfRange
    | some k =>
      match s.roster.quickCodes.get k with
      | none => .error .noSuchCode
      | some m => .ok (manualIdentification m .quickCode)
  | 1 =>
    if machineInRange number.toNat then .ok (manualIdentification number.toNat .typed)
    else .error .outOfRange
  | _ => .error .outOfRange

def ownIdentify (hose mode : Byte) (number : BitVec 24) (s : State) : Answer :=
  forHose hose s fun h =>
    if s.slotState h ≠ .ident ∨ s.pendingTag.get h = true then denied s .busy
    else
      match s.manualIdentity mode number with
      | .error st => denied s st
      | .ok i => accepted (s.identify h i)

def doIdentify (p : Port) (hose mode : Byte) (number : BitVec 24) (s : State) : State :=
  s.takeCommand p onPanel false (ownIdentify hose mode number)

def execIdentify (p : Port) (hose mode : Byte) (number : BitVec 24) (s : State) :
    Host.Outcome State Fault Refusal := (doIdentify p hose mode number s).finish

/-! ### SET_PRESET (R100) -/

def ownSetPreset (hose code : Byte) (litres : BitVec 16) (s : State) : Answer :=
  forHose hose s fun h =>
    if 15 < code.toNat then denied s .outOfRange
    else if (s.slotState h).waiting then accepted (s.modSlot h fun x => { x with preset := presetOf code litres })
    else denied s .busy

def doSetPreset (p : Port) (hose code : Byte) (litres : BitVec 16) (s : State) : State :=
  s.takeCommand p onPanel false (ownSetPreset hose code litres)

def execSetPreset (p : Port) (hose code : Byte) (litres : BitVec 16) (s : State) :
    Host.Outcome State Fault Refusal := (doSetPreset p hose code litres s).finish

/-! ### ENTER_HOURS (R61) -/

def ownEnterHours (hose : Byte) (hours : BitVec 24) (s : State) : Answer :=
  forHose hose s fun h =>
    if maxHours < hours.toNat then denied s .outOfRange
    else if (s.slotState h).waiting then accepted (s.setHours h ⟨hours.toNat, .panel⟩)
    else denied s .busy

def doEnterHours (p : Port) (hose : Byte) (hours : BitVec 24) (s : State) : State :=
  s.takeCommand p onPanel false (ownEnterHours hose hours)

def execEnterHours (p : Port) (hose : Byte) (hours : BitVec 24) (s : State) :
    Host.Outcome State Fault Refusal := (doEnterHours p hose hours s).finish

/-! ### HOLD and RESUME (R37) -/

def ownHold (hose : Byte) (s : State) : Answer :=
  forHose hose s fun h =>
    if (s.slotState h).running then accepted (s.addHold h .operatorHold) else denied s .busy

def doHold (p : Port) (hose : Byte) (s : State) : State := s.takeCommand p onPanel false (ownHold hose)

def execHold (p : Port) (hose : Byte) (s : State) : Host.Outcome State Fault Refusal := (doHold p hose s).finish

def ownResume (hose : Byte) (s : State) : Answer :=
  forHose hose s fun h =>
    if (s.slotState h).delivers then accepted s
    else if s.slotState h = .paused then accepted (s.removeHold h .operatorHold)
    else denied s .busy

def doResume (p : Port) (hose : Byte) (s : State) : State := s.takeCommand p onPanel false (ownResume hose)

def execResume (p : Port) (hose : Byte) (s : State) : Host.Outcome State Fault Refusal :=
  (doResume p hose s).finish

/-! ### STOP (R38) -/

def ownStop (hose : Byte) (s : State) : Answer :=
  forHose hose s fun h =>
    if (s.slotState h).authorised then accepted (s.enterClosing h .operatorStop) else denied s .busy

def doStop (p : Port) (hose : Byte) (s : State) : State := s.takeCommand p onPanel false (ownStop hose)

def execStop (p : Port) (hose : Byte) (s : State) : Host.Outcome State Fault Refusal := (doStop p hose s).finish

/-! ### ACK_EXCEPTION (R48) -/

/-- The pending exception becomes absent with a further count of 0 (R48). -/
def State.clearPending (s : State) (h : Hose) : State :=
  s.modHoseCtl h fun c => { c with pendingException := none }

/-- The UNATTRIBUTED record of a hose's accumulator (R48, R166). -/
def State.composeUnattributed (s : State) (h : Hose) : UnattributedRecord :=
  let a := (s.hoseCtl.get h).accumulator
  { hose := h, gross := a.gross, net := a.net, windowStart := a.windowStart, windowEnd := a.windowEnd
    grossTotalizer := (s.chan.get h).grossTotalizer, time := s.clock.counter }

/-- The channel's part in zeroing the accumulator: the unattributed context empties, and of an unbound
channel the reverse debt and phase-error count return to 0 (R20). -/
def Channel.clearUnattributed (c : Channel) : Channel :=
  if c.bound then { c with unattributed := none }
  else { c with unattributed := none, debt := 0, phaseErrors := 0, excessReported := false }

/-- The accumulator is written out and zeroed, and LEAK detection re-arms (R46, R48). -/
def State.writeOutAccumulator (s : State) (h : Hose) : State :=
  ((s.appendDirect (.unattributed (s.composeUnattributed h))).modHoseCtl h fun c =>
    { c with accumulator := Accumulator.zero, leakWindow := [], leakArmed := true }).modChan h fun c =>
      c.clearUnattributed

def ownAckException (hose : Byte) (s : State) : Answer :=
  forHose hose s fun h =>
    let a := (s.hoseCtl.get h).accumulator
    if a.gross = 0 ∧ a.net = 0 then accepted (s.clearPending h)
    else if s.journal.free = 0 then denied s .journalFull
    else accepted ((s.writeOutAccumulator h).clearPending h)

def doAckException (p : Port) (hose : Byte) (s : State) : State :=
  s.takeCommand p onPanel false (ownAckException hose)

def execAckException (p : Port) (hose : Byte) (s : State) : Host.Outcome State Fault Refusal :=
  (doAckException p hose s).finish

/-! ### READ_HOSE (R24, R50, R70, R116) -/

def ownReadHose (hose : Byte) (s : State) : Answer := forHose hose s fun h => answerWith s (s.hosePayload h)

def doReadHose (p : Port) (hose : Byte) (s : State) : State := s.takeCommand p onPanel false (ownReadHose hose)

def execReadHose (p : Port) (hose : Byte) (s : State) : Host.Outcome State Fault Refusal :=
  (doReadHose p hose s).finish

/-! ### LOGOFF (R67) and RESTART (R193) -/

def ownLogoff (s : State) : Answer := accepted s.logOff

def doLogoff (p : Port) (s : State) : State := s.takeCommand p onPanel false ownLogoff

def execLogoff (p : Port) (s : State) : Host.Outcome State Fault Refusal := (doLogoff p s).finish

/-- Every slot is IDLE and both receipts are CLOSED (R193). -/
def State.restartable (s : State) : Bool :=
  s.allIdle && allComps.all fun c => (s.receipts.get c).state == .closed

def ownRestart (s : State) : Answer :=
  if s.restartable then accepted s.panelRestart else denied s .busy

def doRestart (p : Port) (s : State) : State := s.takeCommand p onPanel false ownRestart

def execRestart (p : Port) (s : State) : Host.Outcome State Fault Refusal := (doRestart p s).finish

end Sys2Proof.Machine
end

