-- ==== Sys2Proof/Machine/Link.lean ====
section
/-! DEFINITION. Whole transfers on a link: VOID_TRANSFER, WRITE_DISCARDED, READ_TRANSFER, UNKNOWN_COMMAND.
A transfer is always taken as what its bytes are (log 5). -/

namespace Sys2Proof.Machine

open Sys2Proof

/-- A port command taken from a frame. The rows that are no port command never come out of a frame. -/
def runCommand (c : Instr) (s : State) : State :=
  match c with
  | .identify p h m n => doIdentify p h m n s
  | .setPreset p h k l => doSetPreset p h k l s
  | .enterHours p h v => doEnterHours p h v s
  | .hold p h => doHold p h s
  | .resume p h => doResume p h s
  | .stop p h => doStop p h s
  | .ackException p h => doAckException p h s
  | .readHose p h => doReadHose p h s
  | .logoff p => doLogoff p s
  | .restart p => doRestart p s
  | .loadRoster p k es => doLoadRoster p k es s
  | .notOnRoster p m => doNotOnRoster p m s
  | .dropRoster p m => doDropRoster p m s
  | .setQuickCode p k m => doSetQuickCode p k m s
  | .setPrice p k v => doSetPrice p k v s
  | .setAccount p i k v => doSetAccount p i k v s
  | .readAccounts p i => doReadAccounts p i s
  | .resetPeriod p i => doResetPeriod p i s
  | .readNext p => doReadNext p s
  | .readFrom p n => doReadFrom p n s
  | .collected p n => doCollected p n s
  | .adjustStock p k d r => doAdjustStock p k d r s
  | .setClock p t => doSetClock p t s
  | .setSite p hr c k q => doSetSite p hr c k q s
  | .openReceipt p k d v => doOpenReceipt p k d v s
  | .closeReceipt p k => doCloseReceipt p k s
  | .abortReceipt p k => doAbortReceipt p k s
  | .readReceipt p k => doReadReceipt p k s
  | .readGauge p k => doReadGauge p k s
  | .setDepot p ra rb ba bb sb ca ro => doSetDepot p ra rb ba bb sb ca ro s
  | .calSetKq p h v => doCalSetKq p h v s
  | .calSetAlpha p k v => doCalSetAlpha p k v s
  | .calSetDeadStock p k v => doCalSetDeadStock p k v s
  | .calSetHighHigh p k v => doCalSetHighHigh p k v s
  | .calSetTilt p v => doCalSetTilt p v s
  | .calSetTolerance p a q => doCalSetTolerance p a q s
  | .calStrapCommit p k => doCalStrapCommit p k s
  | .calStrapLoad p k st n qs => doCalStrapLoad p k st n qs s
  | .readCal p k c i => doReadCal p k c i s
  | .readStatus p => doReadStatus p s
  | .readStock p => doReadStock p s
  | .readEvents p => doReadEvents p s
  | .setEventMask p m => doSetEventMask p m s
  | _ => s

/-- The bytes after a WRITE's type, with the buffer empty or not (R194, R195). -/
def State.takeFrame (s : State) (p : Port) (frame : List Byte) : State :=
  match decodeFrame p frame with
  | .badFrame => s.turnAway p .badFrame
  | .unknownCode => s.turnAway p .unknownCommand
  | .command c => runCommand c s

/-- The transfer types of 11.5. -/
def writeType : Byte := 0x57

def readType : Byte := 0x52

/-- A whole transfer by its first byte (R194). -/
def State.takeTransfer (s : State) (p : Port) (bytes : List Byte) : State :=
  match bytes with
  | [] => s
  | b :: rest =>
    if b = writeType then s.takeFrame p rest
    else if b = readType then s.readBuffer p rest.length
    else s.voidOut p rest.length

/-- VOID_TRANSFER (R194). -/
def execVoidTransfer (p : Port) (bytes : List Byte) (s : State) : Host.Outcome State Fault Refusal :=
  (s.takeTransfer p bytes).finish

/-- WRITE_DISCARDED (R194): with the buffer occupied the frame is discarded and no block sees it. -/
def execWriteDiscarded (p : Port) (frame : List Byte) (s : State) : Host.Outcome State Fault Refusal :=
  (if (s.ports.get p).buffer.isSome then s.discardFrame p else s.takeFrame p frame).finish

/-- READ_TRANSFER (R196). -/
def execReadTransfer (p : Port) (clocked : Nat) (s : State) : Host.Outcome State Fault Refusal :=
  (s.readBuffer p clocked).finish

/-- UNKNOWN_COMMAND (R195): the frame is answered at check 1 or 2. -/
def execUnknownCommand (p : Port) (frame : List Byte) (s : State) : Host.Outcome State Fault Refusal :=
  (s.takeFrame p frame).finish

end Sys2Proof.Machine
end

