-- ==== Sys2Proof/Machine/Dispatch.lean ====
section
/-! DEFINITION. The commands and their meanings: one arm per row of spec/opcode_table.json. -/

namespace Sys2Proof.Machine

open Sys2Proof

def exec (i : Instr) (s : State) : Host.Outcome State Fault Refusal :=
  match i with
  | .voidTransfer port bytes => Sys2Proof.Machine.execVoidTransfer port bytes s
  | .writeDiscarded port frame => Sys2Proof.Machine.execWriteDiscarded port frame s
  | .readTransfer port clocked => Sys2Proof.Machine.execReadTransfer port clocked s
  | .unknownCommand port frame => Sys2Proof.Machine.execUnknownCommand port frame s
  | .identify port hose mode number => Sys2Proof.Machine.execIdentify port hose mode number s
  | .setPreset port hose code litres => Sys2Proof.Machine.execSetPreset port hose code litres s
  | .enterHours port hose hours => Sys2Proof.Machine.execEnterHours port hose hours s
  | .hold port hose => Sys2Proof.Machine.execHold port hose s
  | .resume port hose => Sys2Proof.Machine.execResume port hose s
  | .stop port hose => Sys2Proof.Machine.execStop port hose s
  | .ackException port hose => Sys2Proof.Machine.execAckException port hose s
  | .readHose port hose => Sys2Proof.Machine.execReadHose port hose s
  | .logoff port => Sys2Proof.Machine.execLogoff port s
  | .restart port => Sys2Proof.Machine.execRestart port s
  | .loadRoster port count entries => Sys2Proof.Machine.execLoadRoster port count entries s
  | .notOnRoster port machine => Sys2Proof.Machine.execNotOnRoster port machine s
  | .dropRoster port machine => Sys2Proof.Machine.execDropRoster port machine s
  | .setQuickCode port code machine => Sys2Proof.Machine.execSetQuickCode port code machine s
  | .setPrice port product price => Sys2Proof.Machine.execSetPrice port product price s
  | .setAccount port index code cap => Sys2Proof.Machine.execSetAccount port index code cap s
  | .readAccounts port index => Sys2Proof.Machine.execReadAccounts port index s
  | .resetPeriod port index => Sys2Proof.Machine.execResetPeriod port index s
  | .readNext port => Sys2Proof.Machine.execReadNext port s
  | .readFrom port seq => Sys2Proof.Machine.execReadFrom port seq s
  | .collected port seq => Sys2Proof.Machine.execCollected port seq s
  | .adjustStock port comp delta reason => Sys2Proof.Machine.execAdjustStock port comp delta reason s
  | .setClock port time => Sys2Proof.Machine.execSetClock port time s
  | .setSite port hour cap account required => Sys2Proof.Machine.execSetSite port hour cap account required s
  | .openReceipt port comp docket declared => Sys2Proof.Machine.execOpenReceipt port comp docket declared s
  | .closeReceipt port comp => Sys2Proof.Machine.execCloseReceipt port comp s
  | .abortReceipt port comp => Sys2Proof.Machine.execAbortReceipt port comp s
  | .readReceipt port comp => Sys2Proof.Machine.execReadReceipt port comp s
  | .readGauge port comp => Sys2Proof.Machine.execReadGauge port comp s
  | .setDepot port reorderA reorderB basisA basisB slowBand closeAhead runOn => Sys2Proof.Machine.execSetDepot port reorderA reorderB basisA basisB slowBand closeAhead runOn s
  | .calSetKq port hose kq => Sys2Proof.Machine.execCalSetKq port hose kq s
  | .calSetAlpha port product alpha => Sys2Proof.Machine.execCalSetAlpha port product alpha s
  | .calSetDeadStock port comp dead => Sys2Proof.Machine.execCalSetDeadStock port comp dead s
  | .calSetHighHigh port comp level => Sys2Proof.Machine.execCalSetHighHigh port comp level s
  | .calSetTilt port limit => Sys2Proof.Machine.execCalSetTilt port limit s
  | .calSetTolerance port absolute ppm => Sys2Proof.Machine.execCalSetTolerance port absolute ppm s
  | .calStrapCommit port comp => Sys2Proof.Machine.execCalStrapCommit port comp s
  | .calStrapLoad port comp start count points => Sys2Proof.Machine.execCalStrapLoad port comp start count points s
  | .readCal port selector comp index => Sys2Proof.Machine.execReadCal port selector comp index s
  | .readStatus port => Sys2Proof.Machine.execReadStatus port s
  | .readStock port => Sys2Proof.Machine.execReadStock port s
  | .readEvents port => Sys2Proof.Machine.execReadEvents port s
  | .setEventMask port mask => Sys2Proof.Machine.execSetEventMask port mask s
  | .pulseEdge hose line high time => Sys2Proof.Machine.execPulseEdge hose line high time s
  | .temperatureSample hose valid temp => Sys2Proof.Machine.execTemperatureSample hose valid temp s
  | .sampleAbsenceExpiry hose => Sys2Proof.Machine.execSampleAbsenceExpiry hose s
  | .holdTimerExpiry hose => Sys2Proof.Machine.execHoldTimerExpiry hose s
  | .nozzleLift hose => Sys2Proof.Machine.execNozzleLift hose s
  | .nozzleReturn hose => Sys2Proof.Machine.execNozzleReturn hose s
  | .estopAssert => Sys2Proof.Machine.execEstopAssert s
  | .estopRelease => Sys2Proof.Machine.execEstopRelease s
  | .parkBrakeRelease => Sys2Proof.Machine.execParkBrakeRelease s
  | .parkBrakeSet => Sys2Proof.Machine.execParkBrakeSet s
  | .flowStopExpiry hose => Sys2Proof.Machine.execFlowStopExpiry hose s
  | .noFlowExpiry hose => Sys2Proof.Machine.execNoFlowExpiry hose s
  | .pauseTimerExpiry hose => Sys2Proof.Machine.execPauseTimerExpiry hose s
  | .settleTimerExpiry hose => Sys2Proof.Machine.execSettleTimerExpiry hose s
  | .runOnExpiry comp => Sys2Proof.Machine.execRunOnExpiry comp s
  | .fieldUnsettled reader => Sys2Proof.Machine.execFieldUnsettled reader s
  | .stableFieldExpiry reader => Sys2Proof.Machine.execStableFieldExpiry reader s
  | .qualifyLimitExpiry reader => Sys2Proof.Machine.execQualifyLimitExpiry reader s
  | .frontEndFault reader => Sys2Proof.Machine.execFrontEndFault reader s
  | .fieldLost reader => Sys2Proof.Machine.execFieldLost reader s
  | .retryTimerExpiry => Sys2Proof.Machine.execRetryTimerExpiry s
  | .pollTimerExpiry reader => Sys2Proof.Machine.execPollTimerExpiry reader s
  | .pollResult reader answer => Sys2Proof.Machine.execPollResult reader answer s
  | .trackingMissInterval hose => Sys2Proof.Machine.execTrackingMissInterval hose s
  | .tagRestoreExpiry hose => Sys2Proof.Machine.execTagRestoreExpiry hose s
  | .logoffTimerExpiry => Sys2Proof.Machine.execLogoffTimerExpiry s
  | .supervisorWindowExpiry => Sys2Proof.Machine.execSupervisorWindowExpiry s
  | .identificationTimerExpiry hose => Sys2Proof.Machine.execIdentificationTimerExpiry hose s
  | .overrideWindowExpiry hose => Sys2Proof.Machine.execOverrideWindowExpiry hose s
  | .rosterWaitExpiry machine => Sys2Proof.Machine.execRosterWaitExpiry machine s
  | .clockTick => Sys2Proof.Machine.execClockTick s
  | .probeFrame comp level temp ok => Sys2Proof.Machine.execProbeFrame comp level temp ok s
  | .frameAbsenceExpiry comp => Sys2Proof.Machine.execFrameAbsenceExpiry comp s
  | .inclinometerReading pitch roll => Sys2Proof.Machine.execInclinometerReading pitch roll s
  | .readingAbsenceExpiry => Sys2Proof.Machine.execReadingAbsenceExpiry s
  | .validQualificationExpiry comp => Sys2Proof.Machine.execValidQualificationExpiry comp s
  | .spacingTimerExpiry comp => Sys2Proof.Machine.execSpacingTimerExpiry comp s
  | .openingQualificationExpiry comp => Sys2Proof.Machine.execOpeningQualificationExpiry comp s
  | .openingLimitExpiry comp => Sys2Proof.Machine.execOpeningLimitExpiry comp s
  | .settlingQualificationExpiry comp => Sys2Proof.Machine.execSettlingQualificationExpiry comp s
  | .settlingLimitExpiry comp => Sys2Proof.Machine.execSettlingLimitExpiry comp s
  | .overfillAssert comp => Sys2Proof.Machine.execOverfillAssert comp s
  | .overfillRelease comp => Sys2Proof.Machine.execOverfillRelease comp s
  | .calEnableAssert => Sys2Proof.Machine.execCalEnableAssert s
  | .calEnableRelease => Sys2Proof.Machine.execCalEnableRelease s
  | .entryToSaved => Sys2Proof.Machine.execEntryToSaved s
  | .rideThrough => Sys2Proof.Machine.execRideThrough s
  | .powerOn lines switches => Sys2Proof.Machine.execPowerOn lines switches s

end Sys2Proof.Machine
end

