-- ==== Sys2Proof/WellFormed.lean ====
section
/-! DEFINITION. Well-formed commands: the operands that can belong to a row of the table. Every command
has a meaning, well-formed or not; these checks say which terms the block's lines can bring. -/

namespace Sys2Proof

/-- A frame that checks 1 and 2 of R195 turn away: the frames of the row UNKNOWN_COMMAND. -/
def frameTurnedAway (p : Port) (frame : List Byte) : Bool :=
  match decodeFrame p frame with
  | .command _ => false
  | _ => true

/-- A transfer whose first byte is neither WRITE (0x57) nor READ (0x52): the transfers of the row
VOID_TRANSFER (R194). -/
def transferIsVoid : List Byte → Bool
  | [] => false
  | b :: _ => b != 0x57#8 && b != 0x52#8

/-- A LOAD_ROSTER frame holds as many entries as a count of 1 to 4 says; with another count no entry
is read (R195). -/
def rosterCountFits (count : Byte) (entries : List WireEntry) : Bool :=
  if 1 ≤ count.toNat ∧ count.toNat ≤ 4 then entries.length == count.toNat else entries.isEmpty

/-- As `rosterCountFits`, for CAL_STRAP_LOAD's count of 1 to 8 (R202). -/
def strapCountFits (count : Byte) (points : List WirePoint) : Bool :=
  if 1 ≤ count.toNat ∧ count.toNat ≤ 8 then points.length == count.toNat else points.isEmpty

/-- The checks on a command's operands. A roster request is always for a machine number (R80, R59). -/
def Instr.wellFormed : Instr → Bool
  | .voidTransfer _ bytes => transferIsVoid bytes
  | .unknownCommand p frame => frameTurnedAway p frame
  | .loadRoster _ count entries => rosterCountFits count entries
  | .calStrapLoad _ _ _ count points => strapCountFits count points
  | .rosterWaitExpiry machine => 1 ≤ machine.toNat && machine.toNat ≤ 16777214
  | _ => true

end Sys2Proof
end

