-- ==== Sys2Proof/Safety.lean ====
section
/-! DEFINITION. What claims are stated in: the invariants every step keeps, when a port can take a command
and what its answer leaves, and what is left alone at the other hoses, compartments and ports. -/

namespace Sys2Proof.Machine

open Sys2Proof

/-! ### Invariants -/

/-- The records are the unbroken run from oldest uncollected to next (R154, R155); a slot and a number are in
hand for every holder (R157); the cursor lies in the run (R167). -/
def Journal.sound (j : Journal) : Prop :=
  j.oldest + j.records.length = j.next
    ∧ j.records.map (·.seq) = List.range' j.oldest j.records.length
    ∧ j.records.length + j.register.count ≤ 512
    ∧ j.next + j.register.count ≤ seqEnd
    ∧ j.oldest ≤ j.cursor ∧ j.cursor ≤ j.next

/-- While the supply is SAVED nothing runs that could append a record or serve a slot (R49, R65, R68, R152). -/
def State.frozen (s : State) : Prop :=
  (∀ h, (s.hoseCtl.get h).settle = none ∧ (s.hoseCtl.get h).noFlow = none
      ∧ (s.hoseCtl.get h).pause = none ∧ (s.tracking.get h).restoreWindow = none)
    ∧ (∀ c, (s.receipts.get c).qualification = none ∧ (s.receipts.get c).limit = none)
    ∧ s.supervisor = none

/-- The Save Area's holders, which a power-on puts into the register, fit the journal as it stands (R173). -/
def State.savedHoldersFit (s : State) : Prop :=
  s.journal.records.length + s.save.holders.count ≤ 512 ∧ s.journal.next + s.save.holders.count ≤ seqEnd

/-- In NORMAL the Save Area holds no context (R189). -/
def State.saveEmptied (s : State) : Prop :=
  (∀ h, s.save.slots.get h = none) ∧ (∀ c, s.save.receipts.get c = none)

/-- The journal invariant. -/
def State.JournalInv (s : State) : Prop :=
  s.journal.sound ∧ s.savedHoldersFit ∧ (s.supply = .saved → s.frozen) ∧ (s.supply = .normal → s.saveEmptied)

/-- The cut flag is set exactly while book − dead ≤ 0 (R122), and no slot of a cut compartment is READY,
FLOWING, SLOWING or PAUSED (R121). -/
def State.CutInv (s : State) : Prop :=
  ∀ c, ((s.stock.get c).cut = true ↔ (s.stock.get c).book ≤ s.cal.dead.get c)
    ∧ ((s.stock.get c).cut = true → ∀ h, hoseComp h = c → (s.slotState h).running = false)

/-- A channel is bound exactly while its slot is READY, FLOWING, SLOWING, PAUSED or CLOSING (R1). -/
def State.BoundInv (s : State) : Prop := ∀ h, (s.chan.get h).bound = (s.slotState h).authorised

/-- The ranges of a Meter Channel's state (1.1, R4, R6, R7) under the calibrated factor. -/
def Channel.inRange (c : Channel) (kq : Nat) : Prop :=
  (c.bound = true → c.txn.kq = kq ∧ c.txn.remainder < kq)
    ∧ (∀ u, c.unattributed = some u → u.remainder < kq)
    ∧ c.debt ≤ debtCap kq ∧ c.phaseErrors ≤ 9 ∧ c.unmetered ≤ 65535

/-- The meter invariant: factors in the range of 9.1, channels in range, and binding as R1 has it. -/
def State.MeterInv (s : State) : Prop :=
  s.BoundInv ∧ ∀ h, 200 ≤ s.cal.kq.get h ∧ s.cal.kq.get h ≤ 20000 ∧ (s.chan.get h).inRange (s.cal.kq.get h)

/-- An entry and its staged replacement are of one machine, in the set of that machine (R71, R77). -/
def Entry.inSet (e : Entry) (i : Fin 16) : Prop :=
  machineSet e.body.machine = i
    ∧ ∀ b, e.pendingUpdate = some (.replace b) → b.machine = e.body.machine

/-- The cache invariant: every entry stands in its machine's set, and no two ways of a set hold one
machine. -/
def State.CacheInv (s : State) : Prop :=
  ∀ (i : Fin 16) (w : Fin 4) (e : Entry), s.roster.entryAt ⟨i, w⟩ = some e →
    e.inSet i ∧ ∀ (v : Fin 4) (f : Entry), s.roster.entryAt ⟨i, v⟩ = some f →
      f.body.machine = e.body.machine → v = w

/-- Book stock within ±2^39 and the counters below 2^40 (R117). -/
def figuresInRange (book : Int) (credited adjusted dispensed : Nat) : Prop :=
  -bookLimit ≤ book ∧ book ≤ bookLimit
    ∧ credited < counterModulus ∧ adjusted < counterModulus ∧ dispensed < counterModulus

/-- The stock invariant: figures and totalizers in range, live and saved (R18, R117, R187). -/
def State.StockInv (s : State) : Prop :=
  (∀ c, figuresInRange (s.stock.get c).book (s.stock.get c).credited (s.stock.get c).adjusted
      (s.stock.get c).dispensed)
    ∧ (∀ c, figuresInRange (s.save.stock.get c).book (s.save.stock.get c).credited
      (s.save.stock.get c).adjusted (s.save.stock.get c).dispensed)
    ∧ (∀ h, (s.chan.get h).grossTotalizer < totalizerModulus ∧ (s.chan.get h).netTotalizer < totalizerModulus)
    ∧ (∀ h, (s.save.totals.get h).gross < totalizerModulus ∧ (s.save.totals.get h).net < totalizerModulus)

/-! ### Ports -/

/-- A port can take a command that is not refused at once: its buffer is empty and the supply is NORMAL. -/
abbrev State.takes (s : State) (p : Port) : Prop := (s.ports.get p).buffer = none ∧ s.supply = .normal

/-- The ports after the events are raised and the response is placed on the port. -/
def State.portsWith (s : State) (events : List Event) (p : Port) (r : Response) : PerPort PortState :=
  ((events.foldl State.raise s).answer p r).ports

/-- A status with no payload. -/
def statusOnly (st : Status) : Response := ⟨st, []⟩

/-- The port that accepts a command, or all three (11.3). -/
def acceptedOn : Instr → Port → Bool
  | .readStatus _, _ | .readStock _, _ | .readEvents _, _ | .setEventMask _ _, _ => true
  | .identify _ _ _ _, p | .setPreset _ _ _ _, p | .enterHours _ _ _, p | .hold _ _, p | .resume _ _, p
  | .stop _ _, p | .ackException _ _, p | .readHose _ _, p | .logoff _, p | .restart _, p => p == .panel
  | .loadRoster _ _ _, p | .notOnRoster _ _, p | .dropRoster _ _, p | .setQuickCode _ _ _, p
  | .setPrice _ _ _, p | .setAccount _ _ _ _, p | .readAccounts _ _, p | .resetPeriod _ _, p
  | .readNext _, p | .readFrom _ _, p | .collected _ _, p | .adjustStock _ _ _ _, p | .setClock _ _, p
  | .setSite _ _ _ _ _, p => p == .office
  | .openReceipt _ _ _ _, p | .closeReceipt _ _, p | .abortReceipt _ _, p | .readReceipt _ _, p
  | .readGauge _ _, p | .setDepot _ _ _ _ _ _ _ _, p | .calSetKq _ _ _, p | .calSetAlpha _ _ _, p
  | .calSetDeadStock _ _ _, p | .calSetHighHigh _ _ _, p | .calSetTilt _ _, p | .calSetTolerance _ _ _, p
  | .calStrapCommit _ _, p | .calStrapLoad _ _ _ _ _, p | .readCal _ _ _ _, p => p == .depot
  | _, _ => false

/-- A command answers a next state in which the events are raised, the response stands in the port's buffer
and nothing else has changed but the driven lines. -/
def answers (c : Instr) (s : State) (events : List Event) (p : Port) (r : Response) : Prop :=
  ∃ t, exec c s = .next t ∧ t.ports = s.portsWith events p r ∧ t = { s with ports := t.ports, out := t.out }

/-- The high mark follows the free count (R162): a fall from 33 or more to 32 or less sets the latch and raises
JOURNAL_HIGH, a rise from 32 or less to 33 or more clears it, and otherwise the latch stands. -/
def highMarkFollows (s t : State) : Prop :=
  t.journal.highLatch =
      (if 33 ≤ s.journal.free ∧ t.journal.free ≤ 32 then true
       else if s.journal.free ≤ 32 ∧ 33 ≤ t.journal.free then false
       else s.journal.highLatch)
    ∧ (s.supply = .normal → 33 ≤ s.journal.free → t.journal.free ≤ 32 →
        (t.ports.get .office).hasFlag .office .journalHigh = true)

/-- The compartment's armed mark and last restock notice stand. -/
def restockStands (c : Comp) (s t : State) : Prop :=
  (t.stock.get c).armed = (s.stock.get c).armed ∧ (t.stock.get c).lastNotice = (s.stock.get c).lastNotice

/-- The restock test (R128): an armed compartment that is now below the reorder level is disarmed, with a notice
of the suggested volume and RESTOCK_NEEDED on two ports; otherwise its mark and its last notice stand. -/
def restockTested (c : Comp) (s t : State) : Prop :=
  if (s.stock.get c).armed = true ∧ t.availableStock c < s.depot.reorder.get c then
    (t.stock.get c).armed = false
      ∧ (t.stock.get c).lastNotice = some ⟨t.suggestedVolume c, s.clock.counter⟩
      ∧ (s.supply = .normal →
          (t.ports.get .office).hasFlag .office .restockNeeded = true
          ∧ (t.ports.get .depot).hasFlag .depot .restockNeeded = true)
  else restockStands c s t

/-- The restock test is made where available stock has fallen (R128). -/
def restockFollows (c : Comp) (s t : State) : Prop :=
  if t.availableStock c < s.availableStock c then restockTested c s t else restockStands c s t

/-- A receipt that is FILLING or SETTLING counts a net increment in D, up to 99,999,999 cL (R141). -/
def Receipt.counting (r : Receipt) (n : Nat) : Receipt :=
  match r.state with
  | .filling | .settling => { r with dispensed := r.dispensed.map fun d => min 99999999 (d + n) }
  | .opening | .closed => r

/-- A metering exception has joined the hose's pending exception, and the transaction exception of a bound
channel, with EXCEPTION raised (R44). -/
def exceptionFollows (h : Hose) (code : MeterException) (s t : State) : Prop :=
  (t.hoseCtl.get h).pendingException = bumpException code (s.hoseCtl.get h).pendingException
    ∧ (t.hoseCtl.get h).transactionException =
        (if (s.chan.get h).bound = true then bumpException code (s.hoseCtl.get h).transactionException
         else (s.hoseCtl.get h).transactionException)
    ∧ (s.supply = .normal → (t.ports.get .panel).hasFlag .panel (.exception h) = true)

/-- No metering exception has reached the hose. -/
def exceptionStands (h : Hose) (s t : State) : Prop :=
  (t.hoseCtl.get h).pendingException = (s.hoseCtl.get h).pendingException
    ∧ (t.hoseCtl.get h).transactionException = (s.hoseCtl.get h).transactionException

/-- A saved receipt as the closure continues it (R191): its timers afresh at `now`, the qualification where the
gauge is VALID, and a FILLING one SETTLING with its fill end at the closure. A CLOSED one is not saved, and
`live` stands. -/
def Receipt.continued (r live : Receipt) (now counter : Nat) (gaugeValid : Bool) : Receipt :=
  let soon (ms : Nat) : Timer := if gaugeValid = true then some (now + ms) else none
  match r.state with
  | .opening => { r with limit := some (now + 600000), qualification := soon 30000 }
  | .filling =>
    { r with
      state := .settling, fillEnd := some counter, limit := some (now + 900000)
      qualification := soon 120000 }
  | .settling => { r with limit := some (now + 900000), qualification := soon 120000 }
  | .closed => live

/-- The payload length the command table of R202 gives a code. LOAD_ROSTER and CAL_STRAP_LOAD have lengths by
their counts, and the other codes name no command. -/
def fixedLength : Nat → Option Nat
  | 0x01 | 0x02 | 0x03 | 0x18 | 0x19 | 0x28 => some 0
  | 0x13 | 0x14 | 0x15 | 0x16 | 0x17 | 0x26 | 0x27 | 0x31 | 0x32 | 0x33 | 0x34 | 0x3D => some 1
  | 0x04 | 0x3A => some 2
  | 0x21 | 0x22 | 0x36 | 0x37 | 0x39 | 0x3E => some 3
  | 0x11 | 0x12 | 0x23 | 0x24 | 0x29 | 0x2A | 0x2C => some 4
  | 0x10 | 0x38 => some 5
  | 0x2B | 0x2D => some 6
  | 0x3B => some 8
  | 0x25 | 0x30 => some 9
  | 0x35 => some 14
  | _ => none

/-- An accepted calibration write (R177): the command answers `t`, in which the store is `cal` with the audit
counter raised by one, a CALIBRATION record of the change stands at the end of the run, the high mark follows
the free count, and the Depot port holds OK. -/
def calWrites (i : Instr) (target : CalTarget) (old new : CalSummary) (cal : Calibration) (s t : State) : Prop :=
  exec i s = .next t
    ∧ t.cal = { cal with audit := s.cal.audit + 1 }
    ∧ t.journal = { s.journal with
        records := s.journal.records ++
          [⟨s.journal.next, !s.clock.valid,
            .calibration ⟨target, old, new, s.cal.audit + 1, s.clock.counter⟩⟩]
        next := s.journal.next + 1, highLatch := t.journal.highLatch }
    ∧ highMarkFollows s t
    ∧ (t.ports.get .depot).buffer = some ⟨.ok, []⟩
    ∧ (t.ports.get .office).hasFlag .office .journalNew = true
    ∧ (t.ports.get .office).hasFlag .office .calibration = true

/-! ### What is left alone -/

/-- Everything kept per hose stands at every hose but `h`. -/
def sameOtherHoses (h : Hose) (s t : State) : Prop :=
  ∀ k, k ≠ h →
    t.slots.get k = s.slots.get k ∧ t.chan.get k = s.chan.get k ∧ t.hoseCtl.get k = s.hoseCtl.get k
      ∧ t.tracking.get k = s.tracking.get k ∧ t.nozzleReader.get k = s.nozzleReader.get k
      ∧ t.pendingTag.get k = s.pendingTag.get k

/-- Everything kept per compartment stands at the other compartment. -/
def sameOtherComp (c : Comp) (s t : State) : Prop :=
  ∀ d, d ≠ c →
    t.pumps.get d = s.pumps.get d ∧ t.stock.get d = s.stock.get d ∧ t.gauge.get d = s.gauge.get d
      ∧ t.receipts.get d = s.receipts.get d

end Sys2Proof.Machine
end

