-- ==== Sys2Proof/Certificates/Slice0/Obligations.lean ====
section
/-! DEFINITION. The statements for the provers: what the commands do, what they leave alone, and what every
step keeps. A rule R<n> named in a docstring is one of spec/. -/

open Sys2Proof Sys2Proof.Machine

/-! ### The step, the queue, the lines -/

/-- A step runs the command at the front of the queue on the state with the queue's rest. On an empty queue the
block idles: that is the model's choice (log 1). -/
def Obligations.StepRunsFrontCommand : Prop :=
  (∀ (c : Instr) (rest : List Instr) (s : State),
    step { s with pending := c :: rest } = exec c { s with pending := rest })
  ∧ ∀ s : State, s.pending = [] → step s = .next s

/-- Every command, on every state, answers a next state that keeps the queue and drives every line to the level
its state calls for. -/
def Obligations.EveryCommandAnswers : Prop :=
  ∀ (c : Instr) (s : State), ∃ t, exec c s = .next t ∧ t.pending = s.pending ∧ t.out = t.outputs

/-- Whatever command ran, a main valve is open only in READY or FLOWING and a slow valve only in READY, FLOWING
or SLOWING, none with the emergency stop asserted, the supply SAVED or the compartment cut (R27); a pump runs
under none of these (R43); an inlet is open only while FILLING, with no overfill input, emergency stop or SAVED
supply (R140). -/
def Obligations.DrivesOpenOnlyWhenAllowed : Prop :=
  ∀ (c : Instr) (s t : State), exec c s = .next t →
    (∀ h, t.out.main.get h = true → t.slotState h = .ready ∨ t.slotState h = .flowing)
    ∧ (∀ h, t.out.slow.get h = true →
        t.slotState h = .ready ∨ t.slotState h = .flowing ∨ t.slotState h = .slowing)
    ∧ (∀ h, t.out.main.get h = true ∨ t.out.slow.get h = true ∨ t.out.pump.get (hoseComp h) = true →
        t.switches.estop = false ∧ t.supply = .normal ∧ (t.stock.get (hoseComp h)).cut = false)
    ∧ (∀ k, t.out.inlet.get k = true →
        (t.receipts.get k).state = .filling ∧ t.switches.overfill.get k = false
          ∧ t.switches.estop = false ∧ t.supply = .normal)

/-- R195, R202: the frame of every well-formed port command, read back by the decoder on its port, is the
command. -/
def Obligations.EncodeThenDecode : Prop :=
  ∀ (c : Instr) (p : Port) (f : List Byte),
    c.wellFormed = true → commandPort c = some p → encodeFrame c = some f → decodeFrame p f = .command c

/-! ### Invariants -/

/-- Every step keeps the journal one unbroken run of records numbered from oldest to next, with a slot and a
number in hand for every holder, live or saved, and the cursor within the run (R154, R155, R157, R167). -/
def Obligations.JournalRunKept : Prop :=
  ∀ s t : State, s.JournalInv → step s = .next t → t.JournalInv

/-- Every step keeps the cut flag equal to book − dead ≤ 0, and a cut compartment without a slot in READY,
FLOWING, SLOWING or PAUSED (R121, R122). -/
def Obligations.CutFlagKept : Prop :=
  ∀ s t : State, s.CutInv → step s = .next t → t.CutInv

/-- Every step keeps each channel bound exactly while its slot holds an active transaction: READY, FLOWING,
SLOWING, PAUSED or CLOSING (R1). -/
def Obligations.BindingKept : Prop :=
  ∀ s t : State, s.BoundInv → step s = .next t → t.BoundInv

/-- Every step keeps the meter factors and the channels in their ranges: remainders below Kq (R7), reverse debt
within its cap (R6), phase-error count within 9 (R4). -/
def Obligations.MeterRangesKept : Prop :=
  ∀ s t : State, s.MeterInv → step s = .next t → t.MeterInv

/-- Every step keeps each cache entry in its machine's set, and no machine twice in a set (R71, R76, R77). -/
def Obligations.CacheKept : Prop :=
  ∀ s t : State, s.CacheInv → step s = .next t → t.CacheInv

/-- Every step keeps book stock within ±2^39, the stock counters below 2^40 and the totalizers below 10^11, live
and saved (R18, R117). -/
def Obligations.StockRangesKept : Prop :=
  ∀ s t : State, s.StockInv → step s = .next t → t.StockInv

/-- The state right after reset, with the values that logs 7, 8, 9 and 33 name, meets every invariant (R1, R7,
R71, R117, R122, R154). -/
def Obligations.ResetMeetsInvariants : Prop :=
  State.reset.JournalInv ∧ State.reset.CutInv ∧ State.reset.MeterInv ∧ State.reset.CacheInv
    ∧ State.reset.StockInv

/-! ### The ports -/

/-- R194, R195, R188: with the port's response buffer occupied, a port command or any frame of a WRITE is
discarded: BUSY is shifted out, the waiting response stays, and no block sees the command. A command on a port
that does not accept it is answered WRONG_PORT, and while the supply is SAVED every command but READ_STATUS is
answered SUPPLY_LOW; neither changes anything. -/
def Obligations.PortTurnsCommandsAway : Prop :=
  (∀ (p : Port) (s : State), (s.ports.get p).buffer ≠ none → ∀ c : Instr,
      (commandPort c = some p ∨ ∃ f, c = .writeDiscarded p f) →
        ∃ t, exec c s = .next t
          ∧ t.ports = s.ports.set p { s.ports.get p with shifted := [0x01] }
          ∧ t = { s with ports := t.ports, out := t.out })
  ∧ (∀ (c : Instr) (p : Port) (s : State), commandPort c = some p → c.wellFormed = true →
      acceptedOn c p = false → (s.ports.get p).buffer = none →
      answers c s [] p (statusOnly .wrongPort))
  ∧ (∀ (c : Instr) (p : Port) (s : State), commandPort c = some p → c.wellFormed = true →
      acceptedOn c p = true → c ≠ .readStatus p → (s.ports.get p).buffer = none → s.supply = .saved →
      answers c s [] p (statusOnly .supplyLow))

/-- R196: a READ shifts out status, length and payload, then zeros; the buffer empties only once the whole frame
has been shifted out. An empty buffer reads as zeros (OK, length 0). -/
def Obligations.ReadTransferShiftsResponse : Prop :=
  ∀ (p : Port) (n : Nat) (s : State), ∃ t, exec (.readTransfer p n) s = .next t
    ∧ ((s.ports.get p).buffer = none →
        t.ports = s.ports.set p { s.ports.get p with shifted := List.replicate n 0 })
    ∧ (∀ r, (s.ports.get p).buffer = some r → r.payload.length < 256 →
        let frame := BitVec.ofNat 8 r.status.code :: BitVec.ofNat 8 r.payload.length :: r.payload
        (frame.length ≤ n →
          t.ports = s.ports.set p
            { s.ports.get p with
              buffer := none, shifted := frame ++ List.replicate (n - frame.length) 0 })
        ∧ (n < frame.length →
          t.ports = s.ports.set p { s.ports.get p with shifted := frame.take n }))
    ∧ t = { s with ports := t.ports, out := t.out }

/-- R194, R195: a transfer whose first byte is neither WRITE (0x57) nor READ (0x52) shifts out zeros and acts on
nothing; one zero for each byte after the first is the model's reading (log 4). With the buffer empty, a frame
of fewer than two bytes, of fewer payload bytes than its length byte states, of a length above 240, or of a
payload length other than the one R202 requires is answered BAD_FRAME, a code that names no command
UNKNOWN_COMMAND, and nothing else changes. -/
def Obligations.BadTransfersActOnNothing : Prop :=
  (∀ (p : Port) (b : Byte) (rest : List Byte) (s : State), b ≠ 0x57#8 → b ≠ 0x52#8 →
      ∃ t, exec (.voidTransfer p (b :: rest)) s = .next t
        ∧ t.ports = s.ports.set p { s.ports.get p with shifted := List.replicate rest.length 0 }
        ∧ t = { s with ports := t.ports, out := t.out })
  ∧ (∀ (p : Port) (f : List Byte) (s : State), (s.ports.get p).buffer = none →
      (decodeFrame p f = .badFrame → answers (.unknownCommand p f) s [] p (statusOnly .badFrame))
      ∧ (decodeFrame p f = .unknownCode → answers (.unknownCommand p f) s [] p (statusOnly .unknownCommand))
      ∧ (f.length < 2 → answers (.unknownCommand p f) s [] p (statusOnly .badFrame)))
  ∧ (∀ (p : Port) (code len : Byte) (rest : List Byte) (s : State), (s.ports.get p).buffer = none →
      let f := code :: len :: rest
      ((240 < len.toNat ∨ rest.length < len.toNat) →
        answers (.unknownCommand p f) s [] p (statusOnly .badFrame))
      ∧ (len.toNat ≤ 240 → len.toNat ≤ rest.length →
        (∀ n, fixedLength code.toNat = some n → len.toNat ≠ n →
          answers (.unknownCommand p f) s [] p (statusOnly .badFrame))
        ∧ (code.toNat = 0x20 → len.toNat = 0 → answers (.unknownCommand p f) s [] p (statusOnly .badFrame))
        ∧ (code.toNat = 0x3C → len.toNat < 3 → answers (.unknownCommand p f) s [] p (statusOnly .badFrame))
        ∧ (fixedLength code.toNat = none → code.toNat ≠ 0x20 → code.toNat ≠ 0x3C →
          answers (.unknownCommand p f) s [] p (statusOnly .unknownCommand))))
  ∧ (∀ (p : Port) (len count : Byte) (rest : List Byte) (s : State), (s.ports.get p).buffer = none →
      len.toNat ≤ 240 → len.toNat ≤ rest.length + 1 → 1 ≤ count.toNat → count.toNat ≤ 4 →
      len.toNat ≠ 1 + 23 * count.toNat →
      answers (.unknownCommand p (0x20#8 :: len :: count :: rest)) s [] p (statusOnly .badFrame))
  ∧ (∀ (p : Port) (len comp start count : Byte) (rest : List Byte) (s : State),
      (s.ports.get p).buffer = none → len.toNat ≤ 240 → len.toNat ≤ rest.length + 3 → 1 ≤ count.toNat →
      count.toNat ≤ 8 → len.toNat ≠ 3 + 6 * count.toNat →
      answers (.unknownCommand p (0x3C#8 :: len :: comp :: start :: count :: rest)) s [] p
        (statusOnly .badFrame))

/-- R194, R195: a WRITE of a frame that decodes to a command does what the command does; a frame carried by
either frame row is taken as what its bytes are (log 5). -/
def Obligations.FrameRunsItsCommand : Prop :=
  ∀ (p : Port) (f : List Byte) (c : Instr) (s : State), (s.ports.get p).buffer = none →
    decodeFrame p f = .command c →
    exec (.writeDiscarded p f) s = exec c s ∧ exec (.unknownCommand p f) s = exec c s

/-! ### Reads -/

/-- The commands that read figures answer OK with them and change nothing (R24, R50, R70, R116, R135, R153,
R184, R186, R89). READ_STATUS is answered in either supply state (R188). That READ_RECEIPT has no reserved slot
(log 45) and READ_STATUS no CAL_ENABLE (log 41) are the model's choices. -/
def Obligations.ReadsAnswerAndChangeNothing : Prop :=
  (∀ (s : State) (b : Byte) (h : Hose), s.takes .panel → hoseOf b = some h →
    answers (.readHose .panel b) s [] .panel ⟨.ok, s.hosePayload h⟩)
  ∧ (∀ (s : State) (b : Byte) (i : Fin 32), s.takes .office → accountOf b = some i →
    answers (.readAccounts .office b) s [] .office ⟨.ok, s.accountsPayload i⟩)
  ∧ (∀ (s : State) (b : Byte) (k : Comp), s.takes .depot → compOf b = some k →
    answers (.readReceipt .depot b) s [] .depot ⟨.ok, s.receiptPayload k⟩
      ∧ answers (.readGauge .depot b) s [] .depot ⟨.ok, s.gaugePayload k⟩)
  ∧ (∀ (s : State) (x y : Byte), s.takes .depot →
    answers (.readCal .depot 0 x y) s [] .depot ⟨.ok, s.calGeneral⟩)
  ∧ (∀ (s : State) (b y : Byte) (k : Comp), s.takes .depot → compOf b = some k → y.toNat ≤ 31 →
    answers (.readCal .depot 1 b y) s [] .depot ⟨.ok, calTable k 1 (s.cal.strapping.get k) y.toNat⟩
      ∧ answers (.readCal .depot 2 b y) s [] .depot ⟨.ok, calTable k 2 (s.cal.stagedPoints k) y.toNat⟩)
  ∧ (∀ (s : State) (p : Port), s.takes p → answers (.readStock p) s [] p ⟨.ok, s.stockPayload⟩)
  ∧ ∀ (s : State) (p : Port), (s.ports.get p).buffer = none →
    answers (.readStatus p) s [] p ⟨.ok, s.statusPayload⟩

/-- R202 and the layouts of 11.5: the payloads have their fixed lengths, and the records theirs (DISPENSE 63
bytes, RECEIPT 69, ADJUSTMENT 23, CALIBRATION 34, UNATTRIBUTED 33), each record starting with its length and
carrying its kind in byte 5. The 160 of READ_STOCK, with one presence byte for each compartment, is the model's
reading (log 23), as are the 67 of READ_RECEIPT without the reserved slot (log 45) and the 25 of READ_STATUS
without CAL_ENABLE (log 41). -/
def Obligations.LayoutWidths : Prop :=
  (∀ s : State,
      s.statusPayload.length = 25 ∧ s.stockPayload.length = 160 ∧ s.journal.summary.length = 19
      ∧ s.calGeneral.length = 67 ∧ (∀ k, (s.receiptPayload k).length = 67)
      ∧ (∀ h, (s.nozzleReader.get h).nextPages.length ≤ 3 → (s.hosePayload h).length = 114)
      ∧ ∀ k, (s.gauge.get k).history.length ≤ 10 → (s.gaugePayload k).length = 59)
  ∧ (∀ r : JournalRecord,
      let n : Nat := match r.body with
        | .dispense _ => 63
        | .receipt _ => 69
        | .adjustment _ => 23
        | .calibration _ => 34
        | .unattributed _ => 33
      let kind : Nat := match r.body with
        | .dispense _ => 1
        | .receipt _ => 2
        | .adjustment _ => 3
        | .calibration _ => 4
        | .unattributed _ => 5
      r.bytes.length = n ∧ r.bytes[0]? = some (BitVec.ofNat 8 n) ∧ r.bytes[5]? = some (BitVec.ofNat 8 kind))

/-- R199, R200: READ_EVENTS returns the latched flags, masked or not, with their details, and clears exactly
them; mask, held events and every other port stay, and ATN falls. SET_EVENT_MASK replaces the mask, or is
OUT_OF_RANGE with a bit beyond the port's flags; ATN is then asserted exactly while a latched flag is
unmasked. -/
def Obligations.EventFlagsReadAndMasked : Prop :=
  (∀ (p : Port) (s : State), s.takes p →
      ∃ t, exec (.readEvents p) s = .next t
        ∧ (t.ports.get p).latched = 0 ∧ (t.ports.get p).mask = (s.ports.get p).mask
        ∧ (t.ports.get p).held = (s.ports.get p).held
        ∧ (t.ports.get p).buffer = some
            ⟨.ok, bytes2 (s.ports.get p).latched ++ (s.detailEvents p).flatMap s.eventDetail⟩
        ∧ (∀ q, q ≠ p → t.ports.get q = s.ports.get q)
        ∧ t.out.atn.get p = false
        ∧ t = { s with ports := t.ports, out := t.out })
  ∧ (∀ (p : Port) (m : BitVec 16) (s : State), s.takes p →
      (2 ^ flagCount p ≤ m.toNat → answers (.setEventMask p m) s [] p (statusOnly .outOfRange))
      ∧ (m.toNat < 2 ^ flagCount p →
        ∃ t, exec (.setEventMask p m) s = .next t
          ∧ t.ports = s.ports.set p
              { s.ports.get p with mask := m, buffer := some ⟨.ok, []⟩, shifted := [0] }
          ∧ (t.out.atn.get p = true ↔ (s.ports.get p).latched &&& ~~~m ≠ 0)
          ∧ t = { s with ports := t.ports, out := t.out }))

/-! ### Panel commands -/

/-- R59, R97, R80: IDENTIFY with a typed number names an IDENT slot that no tag claims. On a miss, with fewer
than three requests and none for the machine, the slot enters LOOKUP with its identification timer restarted,
and a new request with its 8-s wait goes to the end of the list. It is BUSY on a slot not in IDENT or claimed by
a tag, and an empty quick code is NO_SUCH_CODE; neither changes anything. -/
def Obligations.IdentifyTypedAndTurnedAway : Prop :=
  (∀ (s : State) (b : Byte) (h : Hose) (n : BitVec 24), s.takes .panel → hoseOf b = some h →
      s.slotState h = .ident → s.pendingTag.get h = false → machineInRange n.toNat = true →
      s.roster.findWay n.toNat = none → (∀ q ∈ s.roster.requests, q.machine ≠ n.toNat) →
      s.roster.requests.length < 3 →
      ∃ t, exec (.identify .panel b 1 n) s = .next t
        ∧ t.slots = s.slots.set h
            { s.slots.get h with
              state := .lookup, machine := some n.toNat, method := some .typed, inlet := none, tank := none
              identTimer := some (s.now + 120000) }
        ∧ t.roster = { s.roster with
            requests := s.roster.requests ++
              [⟨n.toNat, (PerHose.all false).set h true, some (s.now + 8000)⟩] }
        ∧ t.ports = s.portsWith [.hoseState h, .rosterRequest] .panel ⟨.ok, []⟩
        ∧ (∀ k, k ≠ hoseComp h → t.pumps.get k = s.pumps.get k)
        ∧ t = { s with
            slots := t.slots, roster := t.roster, pumps := t.pumps, ports := t.ports, out := t.out })
  ∧ (∀ (s : State) (b m : Byte) (h : Hose) (n : BitVec 24), s.takes .panel → hoseOf b = some h →
      ((s.slotState h ≠ .ident ∨ s.pendingTag.get h = true) →
        answers (.identify .panel b m n) s [] .panel (statusOnly .busy))
      ∧ (s.slotState h = .ident → s.pendingTag.get h = false → ∀ k : Fin 16, n.toNat = k.val →
        s.roster.quickCodes.get k = none →
        answers (.identify .panel b 0 n) s [] .panel (statusOnly .noSuchCode)))

/-- R101, R102: an attempt that succeeds passed all twelve checks; its volume is 100 cL or more, is one of the
present candidates and at most every other, and a candidate of the same value stands after the binding one in
the table. -/
def Obligations.VerdictIsLeastCandidate : Prop :=
  ∀ (s : State) (h : Hose) (e : Entry) (v : AuthorisedVolume), s.verdict h e = .ok v →
    (∀ k ∈ s.refusalChecks h e.body, k.1 = false)
    ∧ 100 ≤ v.volume
    ∧ ∃ before after, s.candidates h e = before ++ (some v.volume, v.binding) :: after
      ∧ (∀ k ∈ before, ∀ n, k.1 = some n → v.volume < n)
      ∧ ∀ k ∈ after, ∀ n, k.1 = some n → v.volume ≤ n

/-- R104: a refused attempt leaves the slot in IDENT with its reason, its preset and a restarted identification
timer, and clears machine, entry, method, inlet, tank, hours and flags. It changes no stock, journal, account,
channel or hose control. -/
def Obligations.RefusalReturnsToIdent : Prop :=
  ∀ (s : State) (h : Hose) (e : Entry) (r : RefusalReason), s.slotEntry h = some e →
    s.verdict h e = .error r →
    let t := s.attempt h
    t.slots = s.slots.set h
      { s.slots.get h with
        state := .ident, machine := none, entry := none, method := none, inlet := none, tank := none
        hours := none, flags := SlotFlags.none, lastRefusal := some r
        identTimer := some (s.now + 120000), overrideTimer := none }
    ∧ t.roster.accounts = s.roster.accounts ∧ t.roster.usage = s.roster.usage
    ∧ t = { s with
        slots := t.slots, roster := t.roster, pumps := t.pumps, logoffTimer := t.logoffTimer
        ports := t.ports }

/-- R105, R1: a successful attempt fixes the volume and binding limit, latches account, operator, price, α, time
and site day, reserves a journal slot, binds the channel with the calibrated Kq and zeros, and leaves the slot
READY, or SLOWING where the volume is within the slow band. The slot holds the flags of the attempt (R106). The
machine's Day Usage List entry is used, or inserted with zeros, or USAGE_FULL raised where 128 stand (R86). The
high mark (R162) and the restock notice (R128) follow the reservation. -/
def Obligations.AuthorisationLatches : Prop :=
  ∀ (s : State) (h : Hose) (e : Entry) (v : AuthorisedVolume), s.slotEntry h = some e →
    s.verdict h e = .ok v → s.depot.closeAhead ≤ 50 →
    let t := s.attempt h
    let m := e.body.machine
    let listed := (s.roster.usageOf m).isSome
    let st : SlotState := if v.volume ≤ s.depot.slowBand then .slowing else .ready
    let reference : Option Nat :=
      match (s.roster.usageOf m).bind (·.lastHours) with
      | some r => some r
      | none => e.body.lastHours
    let flags : SlotFlags :=
      { SlotFlags.none with
        provisional := e.origin == .provisional
        hoursImplausible :=
          match (s.slots.get h).hours, reference with
          | some x, some r => decide (x.hours < r ∨ r + e.body.maxJump < x.hours)
          | _, _ => false
        allowanceUntracked := !listed && decide (128 ≤ s.roster.usage.length)
        calMode := s.switches.calEnable
        clockInvalid := !s.clock.valid }
    t.slots = s.slots.set h
        { s.slots.get h with
          state := st, account := some e.body.account, operator := s.operator, authorised := some v
          price := some (s.prices.get (hoseComp h)), alpha := some (s.cal.alpha.get (hoseComp h))
          authTime := some s.clock.counter, authDay := some s.roster.stamp, holds := HoldSet.empty
          lastRefusal := none, identTimer := none, overrideTimer := none, flags := flags }
      ∧ t.journal = { s.journal with
          register := s.journal.register.put (.hose h) (some !s.clock.valid)
          highLatch := t.journal.highLatch }
      ∧ highMarkFollows s t
      ∧ t.roster =
          (if listed = true ∨ 128 ≤ s.roster.usage.length then s.roster
           else { s.roster with usage := insertUsage ⟨m, 0, 0, none⟩ s.roster.usage })
      ∧ (listed = false → 128 ≤ s.roster.usage.length → s.supply = .normal →
          (t.ports.get .office).hasFlag .office .usageFull = true)
      ∧ restockFollows (hoseComp h) s t
      ∧ (t.chan.get h).bound = true
      ∧ (t.chan.get h).txn =
          { kq := s.cal.kq.get h, remainder := 0, gross := 0, w := 0, net := 0, amount := 0 }
      ∧ (t.chan.get h).debt = 0 ∧ (t.chan.get h).phaseErrors = 0
      ∧ (t.hoseCtl.get h).noFlow = some (s.now + 60000)
      ∧ (t.tracking.get h).running = ((s.slots.get h).method == some .tag)
      ∧ (∀ c, c ≠ hoseComp h → t.stock.get c = s.stock.get c)
      ∧ t = { s with
          slots := t.slots, journal := t.journal, chan := t.chan, hoseCtl := t.hoseCtl, tracking := t.tracking
          roster := t.roster, stock := t.stock, pumps := t.pumps, logoffTimer := t.logoffTimer
          ports := t.ports }

/-- R100, R61, R99: SET_PRESET replaces the preset of a slot before READY, code 15 with its litres held to 1 …
9,999; the litres kept under every other code are 0, the model's choice (log 46). ENTER_HOURS gives such a slot
its hours with source PANEL, and in HOURS_WAIT goes on to an attempt. In IDLE or from READY on both are BUSY; a
code above 15, or hours above 9,999,999, are OUT_OF_RANGE. -/
def Obligations.PresetAndHoursEntered : Prop :=
  (∀ (s : State) (b code : Byte) (h : Hose) (litres : BitVec 16), s.takes .panel → hoseOf b = some h →
      (15 < code.toNat →
        answers (.setPreset .panel b code litres) s [] .panel (statusOnly .outOfRange))
      ∧ (code.toNat ≤ 15 → (s.slotState h).waiting = true →
        ∃ t, exec (.setPreset .panel b code litres) s = .next t
          ∧ t.slots = s.slots.set h
              { s.slots.get h with
                preset := ⟨code.toNat, if code.toNat = 15 then max 1 (min 9999 litres.toNat) else 0⟩ }
          ∧ t.ports = s.portsWith [] .panel ⟨.ok, []⟩
          ∧ t = { s with slots := t.slots, ports := t.ports, out := t.out })
      ∧ (code.toNat ≤ 15 → (s.slotState h).waiting = false →
        answers (.setPreset .panel b code litres) s [] .panel (statusOnly .busy)))
  ∧ (∀ (s : State) (b : Byte) (h : Hose) (v : BitVec 24), s.takes .panel → hoseOf b = some h →
      (9999999 < v.toNat → answers (.enterHours .panel b v) s [] .panel (statusOnly .outOfRange))
      ∧ (v.toNat ≤ 9999999 → (s.slotState h).waiting = false →
        answers (.enterHours .panel b v) s [] .panel (statusOnly .busy))
      ∧ (v.toNat ≤ 9999999 → (s.slotState h).waiting = true →
        let u := s.modSlot h fun x => { x with hours := some ⟨v.toNat, .panel⟩ }
        ∃ t, exec (.enterHours .panel b v) s = .next t
          ∧ (s.slotState h ≠ .hoursWait →
              t.slots = u.slots ∧ t.ports = s.portsWith [] .panel ⟨.ok, []⟩
                ∧ t = { s with slots := t.slots, ports := t.ports, out := t.out })
          ∧ (s.slotState h = .hoursWait →
              t = { (u.attempt h).answer .panel ⟨.ok, []⟩ with out := t.out })))

/-- R34, R35, R37: HOLD adds OPERATOR_HOLD and pauses a slot that delivers; RESUME takes it out of the hold set
and the last cause leaving a PAUSED slot returns it to READY (OK with no effect in a slot that delivers); BUSY
is the answer in every other state. -/
def Obligations.HoldAndResume : Prop :=
  (∀ (s : State) (b : Byte) (h : Hose), s.takes .panel → hoseOf b = some h →
      ((s.slotState h).delivers = true → (s.slots.get h).holds = HoldSet.empty →
        ∃ t, exec (.hold .panel b) s = .next t
          ∧ t.slots = s.slots.set h
              { s.slots.get h with
                state := .paused, holds := { HoldSet.empty with operatorHold := true } }
          ∧ t.hoseCtl = s.hoseCtl.set h
              { s.hoseCtl.get h with
                noFlow := none, flowStop := none, flowWindow := [], pause := some (s.now + 300000) }
          ∧ t.ports = s.portsWith [.hoseState h] .panel ⟨.ok, []⟩
          ∧ (t.pumps.get (hoseComp h)).demand = t.demandOf (hoseComp h)
          ∧ (∀ k, k ≠ hoseComp h → t.pumps.get k = s.pumps.get k)
          ∧ t = { s with
              slots := t.slots, hoseCtl := t.hoseCtl, pumps := t.pumps, ports := t.ports, out := t.out })
      ∧ (s.slotState h = .paused →
        ∃ t, exec (.hold .panel b) s = .next t
          ∧ t.slots = s.slots.set h
              { s.slots.get h with holds := { (s.slots.get h).holds with operatorHold := true } }
          ∧ t.ports = s.portsWith [] .panel ⟨.ok, []⟩
          ∧ t = { s with slots := t.slots, ports := t.ports, out := t.out })
      ∧ ((s.slotState h).running = false → answers (.hold .panel b) s [] .panel (statusOnly .busy)))
  ∧ (∀ (s : State) (b : Byte) (h : Hose), s.takes .panel → hoseOf b = some h →
      ((s.slotState h).delivers = true → answers (.resume .panel b) s [] .panel ⟨.ok, []⟩)
      ∧ (s.slotState h = .paused → (s.slots.get h).holds = { HoldSet.empty with operatorHold := true } →
        s.atSlowThreshold h = false → s.atCloseThreshold h = false →
        ∃ t, exec (.resume .panel b) s = .next t
          ∧ t.slots = s.slots.set h { s.slots.get h with state := .ready, holds := HoldSet.empty }
          ∧ t.hoseCtl = s.hoseCtl.set h
              { s.hoseCtl.get h with
                pause := none, flowWindow := [], noFlow := some (s.now + 60000)
                leakWindow := [], leakArmed := true }
          ∧ t.ports = s.portsWith [.hoseState h] .panel ⟨.ok, []⟩
          ∧ (∀ k, k ≠ hoseComp h → t.pumps.get k = s.pumps.get k)
          ∧ t = { s with
              slots := t.slots, hoseCtl := t.hoseCtl, pumps := t.pumps, ports := t.ports, out := t.out })
      ∧ (s.slotState h = .paused → (s.slots.get h).holds.operatorHold = true →
        ((s.slots.get h).holds.tagLost = true ∨ (s.slots.get h).holds.motion = true) →
        ∃ t, exec (.resume .panel b) s = .next t
          ∧ t.slots = s.slots.set h
              { s.slots.get h with holds := { (s.slots.get h).holds with operatorHold := false } }
          ∧ t.ports = s.portsWith [] .panel ⟨.ok, []⟩
          ∧ t = { s with slots := t.slots, ports := t.ports, out := t.out })
      ∧ ((s.slotState h).running = false → answers (.resume .panel b) s [] .panel (statusOnly .busy)))

/-- R38: STOP. A hose outside 1 … 3 is OUT_OF_RANGE. From READY, FLOWING, SLOWING or PAUSED the slot goes to
CLOSING with end cause OPERATOR_STOP (R32: the settle timer starts, the other hose timers end); in CLOSING it is
answered OK and nothing changes; in IDLE or before READY it is BUSY. That the tracking miss count stands when
tracking stops is the model's choice (log 42). -/
def Obligations.StopCloses : Prop :=
  ∀ (s : State) (b : Byte), s.takes .panel →
    (hoseOf b = none → answers (.stop .panel b) s [] .panel (statusOnly .outOfRange))
    ∧ ∀ h, hoseOf b = some h →
      ((s.slotState h).running = true →
        ∃ t, exec (.stop .panel b) s = .next t
          ∧ t.slots = s.slots.set h
              { s.slots.get h with state := .closing, endCause := some .operatorStop }
          ∧ t.hoseCtl = s.hoseCtl.set h
              { s.hoseCtl.get h with
                flowStop := none, noFlow := none, pause := none, settle := some (s.now + 1500)
                flowWindow := [], leakWindow := [] }
          ∧ t.tracking = s.tracking.set h
              { s.tracking.get h with running := false, restoreWindow := none }
          ∧ t.out.main.get h = false ∧ t.out.slow.get h = false
          ∧ t.ports = s.portsWith [.hoseState h] .panel ⟨.ok, []⟩
          ∧ (∀ k, k ≠ hoseComp h → t.pumps.get k = s.pumps.get k)
          ∧ t = { s with
              slots := t.slots, hoseCtl := t.hoseCtl, tracking := t.tracking, pumps := t.pumps
              ports := t.ports, out := t.out })
      ∧ (s.slotState h = .closing → answers (.stop .panel b) s [] .panel ⟨.ok, []⟩)
      ∧ ((s.slotState h).authorised = false → answers (.stop .panel b) s [] .panel (statusOnly .busy))

/-- R48, R20: ACK_EXCEPTION with a zero accumulator clears the pending exception alone; with a gross above 0 and
no free slot it is JOURNAL_FULL and changes nothing; with a free slot the UNATTRIBUTED record is appended, the
accumulator zeroed, LEAK re-armed, and the unattributed context emptied, with the debt and phase-error count of
an unbound channel at 0. -/
def Obligations.AckExceptionWritesOut : Prop :=
  ∀ (s : State) (b : Byte) (h : Hose), s.takes .panel → hoseOf b = some h →
    let a := (s.hoseCtl.get h).accumulator
    (a.gross = 0 → a.net = 0 →
      ∃ t, exec (.ackException .panel b) s = .next t
        ∧ t.hoseCtl = s.hoseCtl.set h { s.hoseCtl.get h with pendingException := none }
        ∧ t.ports = s.portsWith [] .panel ⟨.ok, []⟩
        ∧ t = { s with hoseCtl := t.hoseCtl, ports := t.ports, out := t.out })
    ∧ (0 < a.gross → s.journal.free = 0 →
      answers (.ackException .panel b) s [] .panel (statusOnly .journalFull))
    ∧ (0 < a.gross → 0 < s.journal.free →
      ∃ t, exec (.ackException .panel b) s = .next t
        ∧ t.hoseCtl = s.hoseCtl.set h
            { s.hoseCtl.get h with
              pendingException := none, accumulator := ⟨0, 0, none, none⟩, leakWindow := []
              leakArmed := true }
        ∧ (t.chan.get h).unattributed = none
        ∧ ((s.chan.get h).bound = false → (t.chan.get h).debt = 0 ∧ (t.chan.get h).phaseErrors = 0)
        ∧ ((s.chan.get h).bound = true →
            t.chan = s.chan.set h { s.chan.get h with unattributed := none })
        ∧ (∀ k, k ≠ h → t.chan.get k = s.chan.get k)
        ∧ t.journal.next = s.journal.next + 1
        ∧ t.journal.records = s.journal.records ++
            [⟨s.journal.next, !s.clock.valid,
              .unattributed ⟨h, a.gross, a.net, a.windowStart, a.windowEnd,
                (s.chan.get h).grossTotalizer, s.clock.counter⟩⟩]
        ∧ t = { s with
            hoseCtl := t.hoseCtl, chan := t.chan, journal := t.journal, ports := t.ports, out := t.out })

/-- R67: LOGOFF, and the expiry of the logoff timer, log a logged-on operator off: PR's last tag event becomes
OPERATOR_OFF with the number and TAG_EVENT is raised; LOGOFF with none logged on changes nothing. -/
def Obligations.OperatorLogsOff : Prop :=
  (∀ (s : State) (n : Nat), s.takes .panel → s.operator = some n →
    ∃ t, exec (.logoff .panel) s = .next t
      ∧ t.operator = none ∧ t.logoffTimer = none
      ∧ t.panelReader = { s.panelReader with lastEvent := some ⟨.operatorOff, some n, s.clock.counter⟩ }
      ∧ t.ports = s.portsWith [.tagEvent] .panel ⟨.ok, []⟩
      ∧ t = { s with
          operator := t.operator, logoffTimer := t.logoffTimer, panelReader := t.panelReader
          ports := t.ports, out := t.out })
  ∧ (∀ s : State, s.takes .panel → s.operator = none →
    answers (.logoff .panel) s [] .panel ⟨.ok, []⟩)
  ∧ ∀ (s : State) (n : Nat), s.logoffTimer.isSome = true → s.operator = some n →
    ∃ t, exec .logoffTimerExpiry s = .next t
      ∧ t.operator = none ∧ t.logoffTimer = none
      ∧ t.panelReader = { s.panelReader with lastEvent := some ⟨.operatorOff, some n, s.clock.counter⟩ }
      ∧ t.ports = (s.raise .tagEvent).ports
      ∧ t = { s with
          operator := t.operator, logoffTimer := t.logoffTimer, panelReader := t.panelReader
          ports := t.ports, out := t.out }

/-- R193: RESTART is BUSY while a slot is active or a receipt is open. Otherwise the cache, requests, operator,
supervisor window, pending exceptions, accumulators and staged table are cleared, the figures, totalizers, site
tables, records, clock and switch levels stay, RESTARTED is latched on every port with every mask cleared, and
the Panel holds the one response. -/
def Obligations.RestartReinitialises : Prop :=
  ∀ s : State, s.takes .panel →
    (s.restartable = false → answers (.restart .panel) s [] .panel (statusOnly .busy))
    ∧ (s.restartable = true →
      ∃ t, exec (.restart .panel) s = .next t
        ∧ t.resetCause = .panelRestart ∧ t.supply = .normal ∧ t.operator = none ∧ t.supervisor = none
        ∧ (∀ w, t.roster.entryAt w = none) ∧ t.roster.requests = []
        ∧ (∀ h, t.slots.get h = Slot.fresh ∧ (t.hoseCtl.get h).pendingException = none
            ∧ (t.hoseCtl.get h).accumulator = ⟨0, 0, none, none⟩
            ∧ (t.hoseCtl.get h).leakArmed = true
            ∧ (t.hoseCtl.get h).liftArmed = s.switches.nozzleIn.get h
            ∧ (t.chan.get h).grossTotalizer = (s.chan.get h).grossTotalizer
            ∧ (t.chan.get h).netTotalizer = (s.chan.get h).netTotalizer
            ∧ (t.chan.get h).tempState = .substituted ∧ (t.chan.get h).unattributed = none
            ∧ (t.nozzleReader.get h).link = .off)
        ∧ (∀ k, t.receipts.get k = Receipt.fresh ∧ t.gauge.get k = Gauge.fresh
            ∧ (t.stock.get k).book = (s.stock.get k).book ∧ (t.stock.get k).armed = (s.stock.get k).armed
            ∧ (t.stock.get k).lastNotice = none)
        ∧ t.cal = { s.cal with staged := none }
        ∧ t.roster.quickCodes = s.roster.quickCodes ∧ t.roster.usage = s.roster.usage
        ∧ t.roster.accounts = s.roster.accounts ∧ t.roster.stamp = s.roster.stamp
        ∧ t.roster.site = s.roster.site
        ∧ t.journal.records = s.journal.records ∧ t.journal.cursor = s.journal.oldest
        ∧ t.clock = s.clock ∧ t.prices = s.prices ∧ t.depot = s.depot ∧ t.switches = s.switches
        ∧ (t.ports.get .panel).buffer = some ⟨.ok, []⟩ ∧ (t.ports.get .office).buffer = none
        ∧ (t.ports.get .depot).buffer = none
        ∧ ∀ p, (t.ports.get p).mask = 0 ∧ (t.ports.get p).hasFlag p .restarted = true)

/-! ### Office commands -/

/-- R76, R74: a LOAD_ROSTER of one entry for a machine that is not cached, on which no slot and no request
waits, fills the victim way with it: origin ROSTER, unpinned. Every other way keeps its entry. An entry out of
range makes the frame OUT_OF_RANGE and changes nothing. For a cached machine the entry is replaced in place
where it is unpinned (R75, R76), and staged as the pending replacement where it is pinned (R77). A slot that
waits for the machine is given the entry, its request removed: it goes to HOURS_WAIT where it still needs hours,
else to its attempt (R78, R98). -/
def Obligations.LoadRosterFillsVictim : Prop :=
  ∀ (s : State) (e : WireEntry), s.takes .office →
    (entryOf e = none → answers (.loadRoster .office 1 [e]) s [] .office (statusOnly .outOfRange))
    ∧ (∀ b, entryOf e = some b → s.roster.findWay b.machine = none →
      (∀ q ∈ s.roster.requests, q.machine ≠ b.machine) →
      (∀ h, s.slotState h ≠ .overrideWait) →
      ∃ t, exec (.loadRoster .office 1 [e]) s = .next t
        ∧ (let way : WayRef := ⟨machineSet b.machine, (s.roster.cache.get (machineSet b.machine)).victim⟩
           t.roster.entryAt way = some ⟨s.roster.checkedBody b, .roster, 0, none⟩
           ∧ ∀ w, w ≠ way → t.roster.entryAt w = s.roster.entryAt w)
        ∧ t.roster = { s.roster with cache := t.roster.cache }
        ∧ t.ports = s.portsWith [] .office ⟨.ok, []⟩
        ∧ t = { s with roster := t.roster, ports := t.ports, out := t.out })
    ∧ (∀ b, entryOf e = some b → ∀ w, s.roster.findWay b.machine = some w →
      ∀ x, s.roster.entryAt w = some x → (∀ q ∈ s.roster.requests, q.machine ≠ b.machine) →
      (∀ h, s.slotState h ≠ .overrideWait) →
      ∃ t, exec (.loadRoster .office 1 [e]) s = .next t
        ∧ t.roster.entryAt w =
            (if x.pins = 0 then some ⟨s.roster.checkedBody b, .roster, 0, none⟩
             else some { x with pendingUpdate := some (.replace b) })
        ∧ (∀ v, v ≠ w → t.roster.entryAt v = s.roster.entryAt v)
        ∧ t.roster = { s.roster with cache := t.roster.cache }
        ∧ t.ports = s.portsWith [] .office ⟨.ok, []⟩
        ∧ t = { s with roster := t.roster, ports := t.ports, out := t.out })
    ∧ (∀ b, entryOf e = some b → s.roster.findWay b.machine = none → ∀ h,
      ((s.slotState h = .lookup ∧ s.roster.waitsOn b.machine h = true)
        ∨ (s.slotState h = .overrideWait ∧ (s.slots.get h).machine = some b.machine)) →
      (∀ k, k ≠ h → s.slotState k ≠ .lookup ∧ s.slotState k ≠ .overrideWait) →
      let way : WayRef := ⟨machineSet b.machine, (s.roster.cache.get (machineSet b.machine)).victim⟩
      let u : State :=
        { s with
          slots := s.slots.set h { s.slots.get h with entry := some way }
          roster :=
            { (s.roster.fill b .roster).pin way with
              requests := s.roster.requests.eraseP fun q => q.machine == b.machine } }
      let needs : Prop := b.hoursRequired = true ∧ (s.slots.get h).hours = none
        ∧ (s.slots.get h).method ≠ some .override
      u.roster.entryAt way = some ⟨s.roster.checkedBody b, .roster, 1, none⟩
      ∧ (∀ w, w ≠ way → u.roster.entryAt w = s.roster.entryAt w)
      ∧ (needs →
        ∃ t, exec (.loadRoster .office 1 [e]) s = .next t
          ∧ t.slots = s.slots.set h
              { s.slots.get h with
                state := .hoursWait, entry := some way, identTimer := some (s.now + 120000)
                overrideTimer := none }
          ∧ t.ports = s.portsWith [.hoseState h] .office ⟨.ok, []⟩
          ∧ t = { s with
              slots := t.slots, roster := u.roster, pumps := t.pumps, ports := t.ports, out := t.out })
      ∧ (¬ needs →
        ∃ t, exec (.loadRoster .office 1 [e]) s = .next t
          ∧ t = { (u.attempt h).answer .office ⟨.ok, []⟩ with out := t.out }))

/-- R74: the victim is the lowest-numbered invalid way; with every way valid it is an unpinned way wherever one
is unpinned. -/
def Obligations.VictimIsInvalidOrUnpinned : Prop :=
  ∀ c : CacheSet,
    ((∃ w, c.ways.get w = none) →
      c.ways.get c.victim = none ∧ ∀ w, c.ways.get w = none → c.victim ≤ w)
    ∧ ((∀ w, c.ways.get w ≠ none) → (∃ w, c.pinnedWay w = false) → c.pinnedWay c.victim = false)

/-- R79: DROP_ROSTER invalidates an unpinned entry and stages DROP on a pinned one, and does no more.
NOT_ON_ROSTER, for a machine that no slot waits on and whose entry is unpinned, invalidates the entry and
removes the machine's request. -/
def Obligations.DropRosterInvalidatesOrStages : Prop :=
  ∀ (s : State) (m : BitVec 24) (w : WayRef) (e : Entry), s.takes .office →
    machineInRange m.toNat = true → s.roster.findWay m.toNat = some w → s.roster.entryAt w = some e →
    (∃ t, exec (.dropRoster .office m) s = .next t
      ∧ t.roster.entryAt w = (if e.pins = 0 then none else some { e with pendingUpdate := some .drop })
      ∧ (∀ v, v ≠ w → t.roster.entryAt v = s.roster.entryAt v)
      ∧ t.roster = { s.roster with cache := t.roster.cache }
      ∧ t.ports = s.portsWith [] .office ⟨.ok, []⟩
      ∧ t = { s with roster := t.roster, ports := t.ports, out := t.out })
    ∧ (e.pins = 0 → (∀ h, s.slotState h ≠ .lookup ∧ s.slotState h ≠ .overrideWait) →
      (∀ h, (s.slots.get h).entry ≠ some w) →
      ∃ t, exec (.notOnRoster .office m) s = .next t
        ∧ t.roster.entryAt w = none
        ∧ (∀ v, v ≠ w → t.roster.entryAt v = s.roster.entryAt v)
        ∧ t.roster = { s.roster with
            cache := t.roster.cache
            requests := s.roster.requests.eraseP fun q => q.machine == m.toNat }
        ∧ t.ports = s.portsWith [] .office ⟨.ok, []⟩
        ∧ t = { s with roster := t.roster, ports := t.ports, out := t.out })

/-- R79: NOT_ON_ROSTER refuses a slot in LOOKUP that waits on the machine's request: it returns to IDENT with
reason NOT_ON_ROSTER and its machine cleared, and the request leaves the list. Stated for the only slot that
waits, of a machine with no cache entry. -/
def Obligations.NotOnRosterRefusesWaiter : Prop :=
  ∀ (s : State) (m : BitVec 24) (h : Hose), s.takes .office → machineInRange m.toNat = true →
    s.roster.findWay m.toNat = none → s.roster.waitsOn m.toNat h = true → s.slotState h = .lookup →
    (s.slots.get h).entry = none → (∀ k, k ≠ h → (s.slotState k).waiting = false) →
    ∃ t, exec (.notOnRoster .office m) s = .next t
      ∧ t.slots = s.slots.set h
          { s.slots.get h with
            state := .ident, machine := none, entry := none, method := none, inlet := none, tank := none
            hours := none, flags := SlotFlags.none, lastRefusal := some .notOnRoster
            identTimer := some (s.now + 120000), overrideTimer := none }
      ∧ t.roster = { s.roster with requests := s.roster.requests.eraseP fun q => q.machine == m.toNat }
      ∧ t.ports = s.portsWith [.hoseState h] .office ⟨.ok, []⟩
      ∧ t = { s with slots := t.slots, roster := t.roster, pumps := t.pumps, ports := t.ports, out := t.out }

/-- R85 and R114: SET_QUICK_CODE empties or replaces one code, SET_PRICE one product's price, each in any slot
state; out of range, each changes nothing. -/
def Obligations.QuickCodeAndPriceReplaced : Prop :=
  (∀ (s : State) (k : Byte) (m : BitVec 24), s.takes .office →
    ((15 < k.toNat ∨ 16777214 < m.toNat) →
      answers (.setQuickCode .office k m) s [] .office (statusOnly .outOfRange))
    ∧ ∀ i : Fin 16, k.toNat = i.val → m.toNat ≤ 16777214 →
      ∃ t, exec (.setQuickCode .office k m) s = .next t
        ∧ t.roster.quickCodes.get i = (if m.toNat = 0 then none else some m.toNat)
        ∧ (∀ j, j ≠ i → t.roster.quickCodes.get j = s.roster.quickCodes.get j)
        ∧ t.roster = { s.roster with quickCodes := t.roster.quickCodes }
        ∧ t.ports = s.portsWith [] .office ⟨.ok, []⟩
        ∧ t = { s with roster := t.roster, ports := t.ports, out := t.out })
  ∧ ∀ (s : State) (k : Byte) (v : BitVec 24), s.takes .office →
    ((productOf k = none ∨ 99999 < v.toNat) →
      answers (.setPrice .office k v) s [] .office (statusOnly .outOfRange))
    ∧ ∀ c, productOf k = some c → v.toNat ≤ 99999 →
      ∃ t, exec (.setPrice .office k v) s = .next t
        ∧ t.prices = s.prices.set c v.toNat
        ∧ t.ports = s.portsWith [] .office ⟨.ok, []⟩
        ∧ t = { s with prices := t.prices, ports := t.ports, out := t.out }

/-- R88, R89: SET_ACCOUNT, by the code it carries, keeps or clears the index's figures, and is BUSY while an
active transaction holds it. RESET_PERIOD returns the period figures with the next sequence number and sets all
three to 0. -/
def Obligations.AccountsSetAndReset : Prop :=
  (∀ (s : State) (b : Byte) (i : Fin 32) (code cap : BitVec 32), s.takes .office → accountOf b = some i →
      let a := s.roster.accounts.get i
      let v : Option Nat := if cap = 0xFFFFFFFF#32 then none else some cap.toNat
      (cap ≠ 0xFFFFFFFF#32 → 99999999 < cap.toNat →
        answers (.setAccount .office b code cap) s [] .office (statusOnly .outOfRange))
      ∧ ((cap = 0xFFFFFFFF#32 ∨ cap.toNat ≤ 99999999) → s.accountBusy i = true →
        answers (.setAccount .office b code cap) s [] .office (statusOnly .busy))
      ∧ ((cap = 0xFFFFFFFF#32 ∨ cap.toNat ≤ 99999999) → s.accountBusy i = false →
        ∃ t, exec (.setAccount .office b code cap) s = .next t
          ∧ t.roster.accounts.get i =
              (if code.toNat = 0 then ⟨0, none, 0, 0, 0, 0⟩
               else if code.toNat = a.code then { a with dayCap := v.map fun x => max x a.dayCharged }
               else ⟨code.toNat, v, 0, 0, 0, 0⟩)
          ∧ (∀ j, j ≠ i → t.roster.accounts.get j = s.roster.accounts.get j)
          ∧ t.roster = { s.roster with accounts := t.roster.accounts }
          ∧ t.ports = s.portsWith [] .office ⟨.ok, []⟩
          ∧ t = { s with roster := t.roster, ports := t.ports, out := t.out }))
  ∧ (∀ (s : State) (b : Byte), s.takes .office →
      (accountOf b = none → answers (.resetPeriod .office b) s [] .office (statusOnly .outOfRange))
      ∧ ∀ i, accountOf b = some i →
        ∃ t, exec (.resetPeriod .office b) s = .next t
          ∧ t.roster.accounts.get i =
              { s.roster.accounts.get i with periodNet := 0, periodAmount := 0, periodCount := 0 }
          ∧ (∀ j, j ≠ i → t.roster.accounts.get j = s.roster.accounts.get j)
          ∧ t.roster = { s.roster with accounts := t.roster.accounts }
          ∧ t.ports = s.portsWith [] .office ⟨.ok, s.periodPayload i⟩
          ∧ t = { s with roster := t.roster, ports := t.ports, out := t.out })

/-- R168: READ_NEXT returns the records from the cursor upward, up to three, with the summary as it stands after
the cursor has moved past them; no record is released. -/
def Obligations.ReadNextReturnsRecords : Prop :=
  ∀ s : State, s.takes .office → s.journal.sound →
    let j := s.journal
    let n := min 3 (j.next - j.cursor)
    ∃ t, exec (.readNext .office) s = .next t
      ∧ t.journal = { j with cursor := j.cursor + n }
      ∧ t.ports = s.portsWith [] .office
          ⟨.ok, ({ j with cursor := j.cursor + n } : Journal).summary ++ [BitVec.ofNat 8 n]
            ++ ((j.records.drop (j.cursor - j.oldest)).take n).flatMap JournalRecord.bytes⟩
      ∧ t = { s with journal := t.journal, ports := t.ports, out := t.out }

/-- R169: READ_FROM sets the cursor to the number given, held between the oldest uncollected and the next
sequence number, and returns no records. -/
def Obligations.ReadFromSetsCursor : Prop :=
  ∀ (s : State) (n : BitVec 32), s.takes .office → s.journal.sound →
    ∃ t, exec (.readFrom .office n) s = .next t
      ∧ (n.toNat < s.journal.oldest → t.journal.cursor = s.journal.oldest)
      ∧ (s.journal.oldest ≤ n.toNat → n.toNat < s.journal.next → t.journal.cursor = n.toNat)
      ∧ (s.journal.next ≤ n.toNat → t.journal.cursor = s.journal.next)
      ∧ t.journal = { s.journal with cursor := t.journal.cursor }
      ∧ t.ports = s.portsWith [] .office ⟨.ok, []⟩
      ∧ t = { s with journal := t.journal, ports := t.ports, out := t.out }

/-- R170, R162: COLLECTED with a number not yet written is OUT_OF_RANGE; below the oldest uncollected it changes
nothing; else every record up to the number is released, the cursor moves up where it stood below, and a free
count that rises past 32 clears the high-mark latch. -/
def Obligations.CollectedReleasesRecords : Prop :=
  ∀ (s : State) (n : BitVec 32), s.takes .office → s.journal.sound →
    let j := s.journal
    (j.next ≤ n.toNat → answers (.collected .office n) s [] .office (statusOnly .outOfRange))
    ∧ (n.toNat < j.next → n.toNat < j.oldest →
      answers (.collected .office n) s [] .office ⟨.ok, j.summary⟩)
    ∧ (n.toNat < j.next → j.oldest ≤ n.toNat →
      ∃ t, exec (.collected .office n) s = .next t
        ∧ t.journal.oldest = n.toNat + 1 ∧ t.journal.next = j.next
        ∧ t.journal.records = j.records.drop (n.toNat + 1 - j.oldest)
        ∧ t.journal.cursor = max j.cursor (n.toNat + 1)
        ∧ t.journal.register = j.register
        ∧ t.journal.highLatch = (if j.free ≤ 32 ∧ 33 ≤ t.journal.free then false else j.highLatch)
        ∧ t.ports = s.portsWith [] .office ⟨.ok, t.journal.summary⟩
        ∧ t = { s with journal := t.journal, ports := t.ports, out := t.out })

/-- R132, R133: ADJUST_STOCK with a delta of 0, beyond ±99,999,999 or past ±2^39 of book stock is OUT_OF_RANGE,
with no free slot JOURNAL_FULL; else book stock and the adjusted counter gain the delta, an ADJUSTMENT record
with the book stock after is appended, and the cut flag agrees with book and dead stock. The high mark follows
the append (R162), and a downward adjustment makes the restock test (R128). -/
def Obligations.AdjustStockMovesBook : Prop :=
  ∀ (s : State) (b r : Byte) (k : Comp) (d : BitVec 32), s.takes .office → compOf b = some k →
    let x := s.stock.get k
    ((d.toInt = 0 ∨ 99999999 < d.toInt.natAbs ∨ 2 ^ 39 < (x.book + d.toInt).natAbs) →
      answers (.adjustStock .office b d r) s [] .office (statusOnly .outOfRange))
    ∧ (d.toInt ≠ 0 → d.toInt.natAbs ≤ 99999999 → (x.book + d.toInt).natAbs ≤ 2 ^ 39 →
      s.journal.free = 0 → answers (.adjustStock .office b d r) s [] .office (statusOnly .journalFull))
    ∧ (d.toInt ≠ 0 → d.toInt.natAbs ≤ 99999999 → (x.book + d.toInt).natAbs ≤ 2 ^ 39 →
      0 < s.journal.free →
      ∃ t, exec (.adjustStock .office b d r) s = .next t
        ∧ (t.stock.get k).book = x.book + d.toInt
        ∧ ((t.stock.get k).adjusted : Int) = (x.adjusted + d.toInt) % 2 ^ 40
        ∧ (t.stock.get k).credited = x.credited ∧ (t.stock.get k).dispensed = x.dispensed
        ∧ ((t.stock.get k).cut = true ↔ x.book + d.toInt ≤ s.cal.dead.get k)
        ∧ (∀ c, c ≠ k → t.stock.get c = s.stock.get c)
        ∧ t.journal.records = s.journal.records ++
            [⟨s.journal.next, !s.clock.valid,
              .adjustment ⟨k, d.toInt, r, x.book + d.toInt, s.clock.counter⟩⟩]
        ∧ t.journal.next = s.journal.next + 1
        ∧ highMarkFollows s t
        ∧ (d.toInt < 0 → restockTested k s t)
        ∧ (t.ports.get .office).buffer = some ⟨.ok, []⟩
        ∧ t = { s with
            stock := t.stock, journal := t.journal, slots := t.slots, hoseCtl := t.hoseCtl
            tracking := t.tracking, pumps := t.pumps, logoffTimer := t.logoffTimer, ports := t.ports
            out := t.out }
        ∧ ((s.stock.get k).cut = true ∨ ¬ x.book + d.toInt ≤ s.cal.dead.get k →
            t.slots = s.slots ∧ t.hoseCtl = s.hoseCtl ∧ t.tracking = s.tracking))

/-- R90, R91: SET_CLOCK sets the counter and the valid flag; CLOCK_TICK adds a second below the counter's end.
The rollover check follows: past the stamp, with the clock valid, it empties the Day Usage List, clears every
day charged, the used elsewhere today of every cache entry and of every pending replacement, and sets the stamp
to the site day; else the lists stand. -/
def Obligations.ClockAndRollover : Prop :=
  let cleared (e : Entry) : Entry :=
    { e with
      body := { e.body with usedElsewhere := 0 }
      pendingUpdate :=
        match e.pendingUpdate with
        | some (.replace b) => some (.replace { b with usedElsewhere := 0 })
        | other => other }
  (∀ (s : State) (v : BitVec 32), s.takes .office →
    let day := (v.toNat + 86400 - 3600 * s.roster.site.boundaryHour) / 86400
    ∃ t, exec (.setClock .office v) s = .next t
      ∧ t.clock = ⟨v.toNat, true⟩
      ∧ (s.roster.stamp < day →
          t.roster.usage = [] ∧ t.roster.stamp = day
            ∧ (∀ i, t.roster.accounts.get i = { s.roster.accounts.get i with dayCharged := 0 })
            ∧ (∀ w, t.roster.entryAt w = (s.roster.entryAt w).map cleared)
            ∧ t.ports = s.portsWith [.dayRollover] .office ⟨.ok, []⟩)
      ∧ (day ≤ s.roster.stamp → t.roster = s.roster ∧ t.ports = s.portsWith [] .office ⟨.ok, []⟩)
      ∧ t = { s with clock := t.clock, roster := t.roster, ports := t.ports, out := t.out })
  ∧ ∀ s : State, s.clock.counter < 4294967295 →
    let day := (s.clock.counter + 1 + 86400 - 3600 * s.roster.site.boundaryHour) / 86400
    ∃ t, exec .clockTick s = .next t
      ∧ t.clock = ⟨s.clock.counter + 1, s.clock.valid⟩
      ∧ (s.clock.valid = true → s.roster.stamp < day →
          t.roster.usage = [] ∧ t.roster.stamp = day
            ∧ (∀ i, t.roster.accounts.get i = { s.roster.accounts.get i with dayCharged := 0 })
            ∧ (∀ w, t.roster.entryAt w = (s.roster.entryAt w).map cleared))
      ∧ (s.clock.valid = false ∨ day ≤ s.roster.stamp → t.roster = s.roster ∧ t.ports = s.ports)
      ∧ t = { s with now := t.now, clock := t.clock, roster := t.roster, ports := t.ports, out := t.out }

/-- R92: SET_SITE stores all four settings, or none when one lies outside its range; without a rollover nothing
else of the roster changes. -/
def Obligations.SetSiteStoresAll : Prop :=
  ∀ (s : State) (hr acc req : Byte) (cap : BitVec 24), s.takes .office →
    ((23 < hr.toNat ∨ cap.toNat < 100 ∨ 999999 < cap.toNat ∨ 31 < acc.toNat ∨ 1 < req.toNat) →
      answers (.setSite .office hr cap acc req) s [] .office (statusOnly .outOfRange))
    ∧ ∀ i : Fin 32, acc.toNat = i.val → hr.toNat ≤ 23 → 100 ≤ cap.toNat → cap.toNat ≤ 999999 →
      req.toNat ≤ 1 →
      let site : SiteSettings := ⟨hr.toNat, cap.toNat, i, req.toNat == 1⟩
      ∃ t, exec (.setSite .office hr cap acc req) s = .next t
        ∧ t.roster.site = site
        ∧ ((s.clock.valid = false ∨ siteDay s.clock.counter hr.toNat ≤ s.roster.stamp) →
            t.roster = { s.roster with site := site } ∧ t.ports = s.portsWith [] .office ⟨.ok, []⟩)
        ∧ (t.ports.get .office).buffer = some ⟨.ok, []⟩
        ∧ t = { s with roster := t.roster, ports := t.ports, out := t.out }

/-! ### Depot commands -/

/-- R137, R142, R143: OPEN_RECEIPT on a CLOSED receipt with a free slot opens it in OPENING with its docket,
declared volume, basis and timers, and reserves a journal slot. CLOSE_RECEIPT and ABORT_RECEIPT end a FILLING
fill into SETTLING, ABORT_RECEIPT with ABORTED. ABORT_RECEIPT of an OPENING receipt cancels it without a record
or a credit. CLOSE_RECEIPT in SETTLING is OK and changes nothing; otherwise, in the states where the three do
not act, they are BUSY and change nothing. The high mark follows the reservation and its release (R162). -/
def Obligations.ReceiptsOpenCloseAbort : Prop :=
  ∀ (s : State) (b : Byte) (c : Comp) (docket declared : BitVec 32), s.takes .depot → compOf b = some c →
    let r := s.receipts.get c
    let soon (ms : Nat) : Timer := if (s.gauge.get c).state = .valid then some (s.now + ms) else none
    let settling (x : Receipt) : Receipt :=
      { x with
        state := .settling, fillEnd := some s.clock.counter, limit := some (s.now + 900000)
        qualification := soon 120000 }
    ((declared.toNat = 0 ∨ 99999999 < declared.toNat) →
      answers (.openReceipt .depot b docket declared) s [] .depot (statusOnly .outOfRange))
    ∧ (1 ≤ declared.toNat → declared.toNat ≤ 99999999 → r.state ≠ .closed →
      answers (.openReceipt .depot b docket declared) s [] .depot (statusOnly .busy))
    ∧ (1 ≤ declared.toNat → declared.toNat ≤ 99999999 → r.state = .closed → s.journal.free = 0 →
      answers (.openReceipt .depot b docket declared) s [] .depot (statusOnly .journalFull))
    ∧ (1 ≤ declared.toNat → declared.toNat ≤ 99999999 → r.state = .closed → 0 < s.journal.free →
      ∃ t, exec (.openReceipt .depot b docket declared) s = .next t
        ∧ t.receipts = s.receipts.set c
            { Receipt.fresh with
              state := .opening, docket := some docket.toNat, declared := some declared.toNat
              basis := some (s.depot.basis.get c), openTime := some s.clock.counter
              limit := some (s.now + 600000), qualification := soon 30000 }
        ∧ t.journal = { s.journal with
            register := s.journal.register.put (.receipt c) (some !s.clock.valid)
            highLatch := t.journal.highLatch }
        ∧ highMarkFollows s t
        ∧ (t.ports.get .depot).buffer = some ⟨.ok, []⟩
        ∧ (t.ports.get .depot).hasFlag .depot (.receiptState c) = true
        ∧ t = { s with receipts := t.receipts, journal := t.journal, ports := t.ports, out := t.out })
    ∧ (r.state = .filling →
      (∃ t, exec (.closeReceipt .depot b) s = .next t
        ∧ t.receipts = s.receipts.set c (settling r)
        ∧ t.ports = s.portsWith [.receiptState c] .depot ⟨.ok, []⟩
        ∧ t.out.inlet.get c = false
        ∧ t = { s with receipts := t.receipts, ports := t.ports, out := t.out })
      ∧ ∃ t, exec (.abortReceipt .depot b) s = .next t
        ∧ t.receipts = s.receipts.set c (settling { r with aborted := true })
        ∧ t.ports = s.portsWith [.receiptState c] .depot ⟨.ok, []⟩
        ∧ t.out.inlet.get c = false
        ∧ t = { s with receipts := t.receipts, ports := t.ports, out := t.out })
    ∧ (r.state = .settling → answers (.closeReceipt .depot b) s [] .depot ⟨.ok, []⟩)
    ∧ ((r.state = .opening ∨ r.state = .closed) →
      answers (.closeReceipt .depot b) s [] .depot (statusOnly .busy))
    ∧ (r.state = .opening →
      ∃ t, exec (.abortReceipt .depot b) s = .next t
        ∧ t.receipts = s.receipts.set c
            { r with
              state := .closed, outcome := some .cancelled, qualification := none, limit := none
              v0 := none, dispensed := none }
        ∧ t.journal = { s.journal with
            register := s.journal.register.put (.receipt c) none, highLatch := t.journal.highLatch }
        ∧ highMarkFollows s t
        ∧ (t.ports.get .depot).buffer = some ⟨.ok, []⟩
        ∧ t = { s with
            receipts := t.receipts, journal := t.journal, gauge := t.gauge, ports := t.ports, out := t.out })
    ∧ ((r.state = .settling ∨ r.state = .closed) →
      answers (.abortReceipt .depot b) s [] .depot (statusOnly .busy))

/-- R183, R129: SET_DEPOT stores its seven settings together. A compartment whose reorder level differs from the
one stored becomes armed and its restock test is made at once; the other keeps its stock record. Any value out
of range makes the command OUT_OF_RANGE. -/
def Obligations.SetDepotStoresAll : Prop :=
  ∀ (s : State) (ra rb : BitVec 32) (ba bb : Byte) (band : BitVec 16) (ahead runOn : Byte), s.takes .depot →
    let inRange : Prop := ra.toNat ≤ 99999999 ∧ rb.toNat ≤ 99999999 ∧ 20 ≤ band.toNat ∧ band.toNat ≤ 2000
      ∧ ahead.toNat ≤ 50 ∧ runOn.toNat ≤ 30
    ((1 < ba.toNat ∨ 1 < bb.toNat ∨ ¬ inRange) →
      answers (.setDepot .depot ra rb ba bb band ahead runOn) s [] .depot (statusOnly .outOfRange))
    ∧ (ba.toNat ≤ 1 → bb.toNat ≤ 1 → inRange →
      ∃ t, exec (.setDepot .depot ra rb ba bb band ahead runOn) s = .next t
        ∧ t.depot =
          { reorder := ⟨ra.toNat, rb.toNat⟩
            basis := ⟨if ba.toNat = 0 then .docket else .gauge, if bb.toNat = 0 then .docket else .gauge⟩
            slowBand := band.toNat, closeAhead := ahead.toNat, runOn := runOn.toNat }
        ∧ (∀ c, t.stock.get c =
            (if t.depot.reorder.get c = s.depot.reorder.get c then s.stock.get c
             else if s.availableStock c < t.depot.reorder.get c then
               { s.stock.get c with
                 armed := false, lastNotice := some ⟨s.suggestedVolume c, s.clock.counter⟩ }
             else { s.stock.get c with armed := true }))
        ∧ (t.ports.get .depot).buffer = some ⟨.ok, []⟩
        ∧ t = { s with depot := t.depot, stock := t.stock, ports := t.ports, out := t.out })

/-- R176, R177, R20, R178, R179: with CAL_ENABLE released every calibration write is CAL_LOCKED and changes
nothing. A target or value out of range is OUT_OF_RANGE; then a write of a slot, compartment or receipt in use
is BUSY; then a staged table that does not ascend, or of fewer than two points, is BAD_TABLE (R181); then with
no free journal slot the write is JOURNAL_FULL. Otherwise each write stores its value, raises the audit counter
by one and appends a CALIBRATION record of the old and new summaries, the high mark following (R162). A meter
factor also zeroes the debt and the open unattributed remainder (that it arms the REVERSE_EXCESS report again is
the model's choice, log 40), a dead stock re-evaluates the cut, a tilt limit re-evaluates the gauges. -/
def Obligations.CalibrationWritesRecorded : Prop :=
  ∀ s : State, s.takes .depot →
    (s.switches.calEnable = false →
      (∀ b v, answers (.calSetKq .depot b v) s [] .depot (statusOnly .calLocked))
      ∧ (∀ b v, answers (.calSetAlpha .depot b v) s [] .depot (statusOnly .calLocked))
      ∧ (∀ b v, answers (.calSetDeadStock .depot b v) s [] .depot (statusOnly .calLocked))
      ∧ (∀ b v, answers (.calSetHighHigh .depot b v) s [] .depot (statusOnly .calLocked))
      ∧ (∀ v, answers (.calSetTilt .depot v) s [] .depot (statusOnly .calLocked))
      ∧ (∀ v w, answers (.calSetTolerance .depot v w) s [] .depot (statusOnly .calLocked))
      ∧ ∀ b, answers (.calStrapCommit .depot b) s [] .depot (statusOnly .calLocked))
    ∧ (s.switches.calEnable = true →
      let unused (c : Comp) : Prop := s.compIdle c = true ∧ (s.receipts.get c).state = .closed
      let judged (i : Instr) (inRange idle good : Prop) : Prop :=
        (¬ inRange → answers i s [] .depot (statusOnly .outOfRange))
        ∧ (inRange → ¬ idle → answers i s [] .depot (statusOnly .busy))
        ∧ (inRange → idle → ¬ good → answers i s [] .depot (statusOnly .badTable))
        ∧ (inRange → idle → good → s.journal.free = 0 → answers i s [] .depot (statusOnly .journalFull))
      (∀ (b : Byte) (v : BitVec 16),
        (hoseOf b = none → answers (.calSetKq .depot b v) s [] .depot (statusOnly .outOfRange))
        ∧ (∀ h, hoseOf b = some h →
          judged (.calSetKq .depot b v) (200 ≤ v.toNat ∧ v.toNat ≤ 20000) (s.slotState h = .idle) True)
        ∧ (productOf b = none → answers (.calSetAlpha .depot b v) s [] .depot (statusOnly .outOfRange))
        ∧ (∀ c, productOf b = some c →
          judged (.calSetAlpha .depot b v) (v.toNat ≤ 2000) (s.compIdle c = true) True)
        ∧ (compOf b = none → answers (.calSetHighHigh .depot b v) s [] .depot (statusOnly .outOfRange))
        ∧ (∀ c, compOf b = some c → judged (.calSetHighHigh .depot b v) (1 ≤ v.toNat) (unused c) True)
        ∧ judged (.calSetTilt .depot v) (1 ≤ v.toNat ∧ v.toNat ≤ 450) True True)
      ∧ (∀ (b : Byte) (v w : BitVec 32),
        (compOf b = none → answers (.calSetDeadStock .depot b v) s [] .depot (statusOnly .outOfRange))
        ∧ (∀ c, compOf b = some c → judged (.calSetDeadStock .depot b v) (v.toNat ≤ 99999999) (unused c) True)
        ∧ judged (.calSetTolerance .depot v w) (v.toNat ≤ 99999999 ∧ w.toNat ≤ 1000000) True True)
      ∧ ∀ b : Byte,
        (compOf b = none → answers (.calStrapCommit .depot b) s [] .depot (statusOnly .outOfRange))
        ∧ ∀ c, compOf b = some c →
          judged (.calStrapCommit .depot b) True (unused c)
            (2 ≤ (s.cal.stagedPoints c).length ∧ ascends (s.cal.stagedPoints c) = true))
    ∧ (s.switches.calEnable = true → 0 < s.journal.free →
      (∀ (b : Byte) (h : Hose) (v : BitVec 16), hoseOf b = some h → s.slotState h = .idle →
        200 ≤ v.toNat → v.toNat ≤ 20000 →
        ∃ t, calWrites (.calSetKq .depot b v) (.kq h) (.value (s.cal.kq.get h)) (.value v.toNat)
            { s.cal with kq := s.cal.kq.set h v.toNat } s t
          ∧ t.chan = s.chan.set h
              { s.chan.get h with
                debt := 0, excessReported := false
                unattributed := (s.chan.get h).unattributed.map fun u => { u with remainder := 0 } }
          ∧ t = { s with
              cal := t.cal, journal := t.journal, chan := t.chan, ports := t.ports, out := t.out })
      ∧ (∀ (b : Byte) (c : Comp) (v : BitVec 16), productOf b = some c → s.compIdle c = true →
        v.toNat ≤ 2000 →
        ∃ t, calWrites (.calSetAlpha .depot b v) (.alpha c) (.value (s.cal.alpha.get c)) (.value v.toNat)
            { s.cal with alpha := s.cal.alpha.set c v.toNat } s t
          ∧ t = { s with cal := t.cal, journal := t.journal, ports := t.ports, out := t.out })
      ∧ (∀ (b : Byte) (c : Comp), compOf b = some c → s.compIdle c = true →
        (s.receipts.get c).state = .closed →
        (∀ v : BitVec 32, v.toNat ≤ 99999999 →
          ∃ t, calWrites (.calSetDeadStock .depot b v) (.deadStock c) (.value (s.cal.dead.get c))
              (.value v.toNat) { s.cal with dead := s.cal.dead.set c v.toNat } s t
            ∧ ((t.stock.get c).cut = true ↔ (s.stock.get c).book ≤ v.toNat)
            ∧ (t.stock.get c).book = (s.stock.get c).book
            ∧ (∀ d, d ≠ c → t.stock.get d = s.stock.get d ∧ t.pumps.get d = s.pumps.get d)
            ∧ t = { s with
                cal := t.cal, journal := t.journal, stock := t.stock, pumps := t.pumps, ports := t.ports
                out := t.out })
        ∧ (∀ v : BitVec 16, 1 ≤ v.toNat →
          ∃ t, calWrites (.calSetHighHigh .depot b v) (.highHigh c) (.value (s.cal.highHigh.get c))
              (.value v.toNat) { s.cal with highHigh := s.cal.highHigh.set c v.toNat } s t
            ∧ t = { s with cal := t.cal, journal := t.journal, ports := t.ports, out := t.out })
        ∧ (s.commitOk c = true →
          ∃ t, calWrites (.calStrapCommit .depot b) (.strapping c) (strapSummary (s.cal.strapping.get c))
              (strapSummary (s.cal.stagedPoints c))
              { s.cal with
                strapping := s.cal.strapping.set c (s.cal.stagedPoints c), staged := none } s t
            ∧ t = { s with cal := t.cal, journal := t.journal, ports := t.ports, out := t.out }))
      ∧ (∀ v : BitVec 16, 1 ≤ v.toNat → v.toNat ≤ 450 →
        ∃ t, calWrites (.calSetTilt .depot v) .tiltLimit (.value s.cal.tiltLimit) (.value v.toNat)
            { s.cal with tiltLimit := v.toNat } s t
          ∧ (∀ c, (t.gauge.get c).state = t.gaugeStateOf c)
          ∧ t = { s with
              cal := t.cal, journal := t.journal, gauge := t.gauge, receipts := t.receipts, ports := t.ports
              out := t.out })
      ∧ ∀ v w : BitVec 32, v.toNat ≤ 99999999 → w.toNat ≤ 1000000 →
        ∃ t, calWrites (.calSetTolerance .depot v w) .varianceTolerance
            (.pair s.cal.tolAbsolute s.cal.tolPpm) (.pair v.toNat w.toNat)
            { s.cal with tolAbsolute := v.toNat, tolPpm := w.toNat } s t
          ∧ t = { s with cal := t.cal, journal := t.journal, ports := t.ports, out := t.out })

/-- R180: CAL_STRAP_LOAD of points in range starts the staged table afresh after a start mark, or adds to the
points staged for the same compartment; more than 32 in all, or nothing staged for the compartment, is
OUT_OF_RANGE. With CAL_ENABLE released it is CAL_LOCKED. No other state changes. -/
def Obligations.StrapLoadStages : Prop :=
  ∀ (s : State) (b m count : Byte) (points : List WirePoint) (c : Comp), s.takes .depot →
    compOf b = some c → 1 ≤ count.toNat → count.toNat ≤ 8 → points.length = count.toNat →
    points.all pointInRange = true → m.toNat ≤ 1 →
    (s.switches.calEnable = false →
      answers (.calStrapLoad .depot b m count points) s [] .depot (statusOnly .calLocked))
    ∧ (s.switches.calEnable = true → m.toNat = 0 → (∀ g, s.cal.staged = some g → g.comp ≠ c) →
      answers (.calStrapLoad .depot b m count points) s [] .depot (statusOnly .outOfRange))
    ∧ (s.switches.calEnable = true → (m.toNat = 1 ∨ ∃ g, s.cal.staged = some g ∧ g.comp = c) →
      let base := if m.toNat = 1 then [] else s.cal.stagedPoints c
      (32 < base.length + points.length →
        answers (.calStrapLoad .depot b m count points) s [] .depot (statusOnly .outOfRange))
      ∧ (base.length + points.length ≤ 32 →
        ∃ t, exec (.calStrapLoad .depot b m count points) s = .next t
          ∧ t.cal = { s.cal with staged := some ⟨c, base ++ points.map pointOf⟩ }
          ∧ t.ports = s.portsWith [] .depot ⟨.ok, []⟩
          ∧ t = { s with cal := t.cal, ports := t.ports, out := t.out }))

/-! ### Pulses and product temperature -/

/-- R3, R7, R14 to R18: a forward pulse on the transaction route adds ⌊(remainder + 1000) / Kq⌋ centilitres of
gross, keeps the rest as remainder, weights the deviation into W, and makes net, amount and the two totalizers
follow. The net increment leaves book stock, joins the dispensed counter and the D of a receipt that counts
(R141), and makes the restock test where available stock falls (R128). Net first past the authorised volume by
more than 200 cL raises OVERRUN (R33). Every other channel stays as it was. That the edge tells the part its
time is the model's choice (log 2). -/
def Obligations.TransactionPulseMeters : Prop :=
  ∀ (s : State) (h : Hose) (line : MeterLine) (time : Nat), s.supply = .normal →
    (s.chan.get h).bound = true → (s.slotState h).authorised = true → s.slotState h ≠ .paused →
    (s.chan.get h).level line = false → (s.chan.get h).lastChanged ≠ some line →
    (s.chan.get h).forward line = true → (s.chan.get h).debt = 0 →
    (s.chan.get h).txn.gross < 999994 → (s.chan.get h).txn.net < 999990 →
    let c := s.chan.get h
    let x := s.stock.get (hoseComp h)
    let k := (c.txn.remainder + 1000) / c.txn.kq
    let gross := c.txn.gross + k
    let w := c.txn.w + k * c.deviation
    let net := ((gross : Int) - correction ((s.slots.get h).alpha.getD 0) w).toNat
    let n := net - c.txn.net
    ∃ t, exec (.pulseEdge h line true time) s = .next t
      ∧ t.now = max s.now time
      ∧ t.chan = s.chan.set h
          { c.lineTakes line true with
            txn :=
              { kq := c.txn.kq, remainder := (c.txn.remainder + 1000) % c.txn.kq, gross := gross, w := w
                net := net, amount := amountOf net ((s.slots.get h).price.getD 0) }
            grossTotalizer := (c.grossTotalizer + k) % 100000000000
            netTotalizer := (c.netTotalizer + n) % 100000000000 }
      ∧ (n = 0 → t.stock = s.stock)
      ∧ (0 < n →
          (t.stock.get (hoseComp h)).book = max (-549755813888) (x.book - n)
          ∧ (t.stock.get (hoseComp h)).dispensed = (x.dispensed + n) % 1099511627776)
      ∧ (0 < n → restockFollows (hoseComp h) s t)
      ∧ t.receipts = s.receipts.set (hoseComp h) ((s.receipts.get (hoseComp h)).counting n)
      ∧ (∀ d, d ≠ hoseComp h → t.stock.get d = s.stock.get d)
      ∧ (if 0 < n ∧ (s.hoseCtl.get h).overrunReported = false
            ∧ (s.slots.get h).authorisedVolume + 200 < net then
           exceptionFollows h .overrun s t ∧ (t.hoseCtl.get h).overrunReported = true
         else
           0 < n → exceptionStands h s t
             ∧ (t.hoseCtl.get h).overrunReported = (s.hoseCtl.get h).overrunReported)
      ∧ (t.slots.get h).flags =
          (if k = 0 then (s.slots.get h).flags
           else
             { (s.slots.get h).flags with
               tempClamped := (s.slots.get h).flags.tempClamped || c.weightsClamped
               tcSubstituted := (s.slots.get h).flags.tcSubstituted || c.tempState == .substituted })
      ∧ t = { s with
          now := t.now, chan := t.chan, slots := t.slots, hoseCtl := t.hoseCtl, tracking := t.tracking
          pumps := t.pumps, stock := t.stock, receipts := t.receipts, ports := t.ports, out := t.out }

/-- R29, R30, R28: the third counted pulse within 1 s takes a slot in READY to FLOWING with the 3-s flow-stop
timer and the 60-s no-flow timer; that exactly 1 s counts as within is the model's reading (log 3). The
comparison closes a slot at authorised − close-ahead with PRESET_REACHED and slows one at authorised − slow
band. -/
def Obligations.FlowSenseAndComparison : Prop :=
  (∀ (s : State) (h : Hose) (a b : Nat), s.slotState h = .ready →
    (s.hoseCtl.get h).flowWindow = [a, b] → s.now ≤ a + 1000 →
    let t := s.senseFlow h
    t.slots = s.slots.set h { s.slots.get h with state := .flowing }
    ∧ t.hoseCtl = s.hoseCtl.set h
        { s.hoseCtl.get h with
          flowWindow := [], flowStop := some (s.now + 3000), noFlow := some (s.now + 60000) }
    ∧ t.ports = (s.raise (.hoseState h)).ports
    ∧ t = { s with slots := t.slots, hoseCtl := t.hoseCtl, pumps := t.pumps, ports := t.ports })
  ∧ (∀ (s : State) (h : Hose), (s.slotState h).delivers = true →
    (s.slots.get h).authorisedVolume ≤ (s.chan.get h).txn.net + (s.hoseCtl.get h).closeAhead →
    let t := s.compareVolume h
    t.slots = s.slots.set h { s.slots.get h with state := .closing, endCause := some .presetReached }
    ∧ (t.hoseCtl.get h).settle = some (s.now + 1500)
    ∧ t = { s with
        slots := t.slots, hoseCtl := t.hoseCtl, tracking := t.tracking, pumps := t.pumps, ports := t.ports })
  ∧ ∀ (s : State) (h : Hose), (s.slotState h = .ready ∨ s.slotState h = .flowing) →
    (s.chan.get h).txn.net + (s.hoseCtl.get h).closeAhead < (s.slots.get h).authorisedVolume →
    (s.slots.get h).authorisedVolume ≤ (s.chan.get h).txn.net + (s.hoseCtl.get h).slowBand →
    let t := s.compareVolume h
    t.slots = s.slots.set h { s.slots.get h with state := .slowing }
    ∧ t.hoseCtl = s.hoseCtl.set h { s.hoseCtl.get h with flowStop := none, flowWindow := [] }
    ∧ t.outputs.main.get h = false
    ∧ t = { s with slots := t.slots, hoseCtl := t.hoseCtl, pumps := t.pumps, ports := t.ports }

/-- R3 to R6, R19, R22, R47: the other edges. A line already at the level is no change (the model's choice, log
10), and the time an edge carries moves the part's time on (log 2). A falling edge moves the level; a rising
edge in SAVED is an unmetered pulse; one that breaks the alternation is a phase error, the ninth reported as
PULSE_PHASE; a reverse pulse adds to the debt below its cap; a forward pulse against a debt uses it up. With no
debt, off the transaction route or past the transaction's ceiling (R8), it is metered into the unattributed
context and the accumulator, leaves book stock, makes the restock test (R128) and joins D (R141). With the
valves closed and detection armed the third such pulse within 10 s, a pulse at exactly 10 s counted (log 3),
raises LEAK and quiets detection, which then keeps its window (R46, log 30). The first diverted pulse closes a
slot that delivers with PRESET_REACHED (R31); a dead-stock cut at the same pulse comes first, the model's choice
(log 13). -/
def Obligations.OtherEdges : Prop :=
  ∀ (s : State) (h : Hose) (line : MeterLine) (time : Nat),
    let c := s.chan.get h
    let now := max s.now time
    (∀ high : Bool, c.level line = high →
      ∃ t, exec (.pulseEdge h line high time) s = .next t ∧ t = { s with now := now, out := t.out })
    ∧ (c.level line = true →
      ∃ t, exec (.pulseEdge h line false time) s = .next t
        ∧ t = { s with now := now, chan := s.chan.set h (c.lineTakes line false), out := t.out })
    ∧ (c.level line = false → s.supply = .saved →
      ∃ t, exec (.pulseEdge h line true time) s = .next t
        ∧ t = { s with
            now := now
            chan := s.chan.set h { c.lineTakes line true with unmetered := min 65535 (c.unmetered + 1) }
            out := t.out })
    ∧ (c.level line = false → s.supply = .normal →
      (c.lastChanged = some line →
        ∃ t, exec (.pulseEdge h line true time) s = .next t
          ∧ t.chan = s.chan.set h { c.lineTakes line true with phaseErrors := min 9 (c.phaseErrors + 1) }
          ∧ (c.phaseErrors ≠ 8 → t = { s with now := now, chan := t.chan, out := t.out })
          ∧ (c.phaseErrors = 8 →
              (t.hoseCtl.get h).pendingException =
                bumpException .pulsePhase (s.hoseCtl.get h).pendingException
              ∧ (t.ports.get .panel).hasFlag .panel (.exception h) = true
              ∧ ((s.slotState h).running = true →
                  t.slots = s.slots.set h
                    { s.slots.get h with state := .closing, endCause := some .meterException })
              ∧ t = { s with
                  now := now, chan := t.chan, slots := t.slots, hoseCtl := t.hoseCtl
                  tracking := t.tracking, pumps := t.pumps, ports := t.ports, out := t.out }))
      ∧ (c.lastChanged ≠ some line → c.forward line = false →
        (c.debt < debtCap (s.kqInEffect h) →
          ∃ t, exec (.pulseEdge h line true time) s = .next t
            ∧ t = { s with
                now := now, chan := s.chan.set h { c.lineTakes line true with debt := c.debt + 1 }
                out := t.out })
        ∧ (debtCap (s.kqInEffect h) ≤ c.debt → c.excessReported = true →
          ∃ t, exec (.pulseEdge h line true time) s = .next t
            ∧ t = { s with now := now, chan := s.chan.set h (c.lineTakes line true), out := t.out })
        ∧ (debtCap (s.kqInEffect h) ≤ c.debt → c.excessReported = false →
          ∃ t, exec (.pulseEdge h line true time) s = .next t
            ∧ t.chan = s.chan.set h { c.lineTakes line true with excessReported := true }
            ∧ (t.hoseCtl.get h).pendingException =
                bumpException .reverseExcess (s.hoseCtl.get h).pendingException
            ∧ (t.ports.get .panel).hasFlag .panel (.exception h) = true
            ∧ ((s.slotState h).running = true →
                t.slots = s.slots.set h
                  { s.slots.get h with state := .closing, endCause := some .meterException })))
      ∧ (c.lastChanged ≠ some line → c.forward line = true →
        (0 < c.debt →
          ∃ t, exec (.pulseEdge h line true time) s = .next t
            ∧ t = { s with
                now := now
                chan := s.chan.set h
                  { c.lineTakes line true with debt := c.debt - 1, excessReported := false }
                out := t.out })
        ∧ (c.debt = 0 →
          (c.bound = false ∨ (s.slotState h).authorised = false ∨ s.slotState h = .paused
            ∨ 999994 ≤ c.txn.gross ∨ 999990 ≤ c.txn.net) →
          let diverted : Bool := c.bound && (s.slotState h).authorised && s.slotState h != .paused
          let kq := if c.bound = true then c.txn.kq else s.cal.kq.get h
          let u := openContext c.unattributed (s.cal.alpha.get (hoseComp h))
          let k := (u.remainder + 1000) / kq
          let w := u.w + k * c.deviation
          let net := ((u.gross + k : Nat) - correction u.alpha w : Int).toNat
          let n := net - u.net
          let k0 := s.hoseCtl.get h
          let a := k0.accumulator
          let x := s.stock.get (hoseComp h)
          let book := max (-549755813888) (x.book - n)
          let cuts : Prop := 0 < n ∧ x.cut = false ∧ book ≤ s.cal.dead.get (hoseComp h)
          let watched : Prop :=
            ((s.slotState h).authorised = false ∨ s.slotState h = .paused) ∧ k0.leakArmed = true
          let window := (k0.leakWindow ++ [now]).drop (k0.leakWindow.length - 2)
          let full : Prop := window.length = 3 ∧ now ≤ window.headD 0 + 10000
          ∃ t, exec (.pulseEdge h line true time) s = .next t
            ∧ t.chan = s.chan.set h
                { c.lineTakes line true with
                  unattributed :=
                    some ⟨u.alpha, (u.remainder + 1000) % kq, u.gross + k, w, net⟩
                  grossTotalizer := (c.grossTotalizer + k) % 100000000000
                  netTotalizer := (c.netTotalizer + n) % 100000000000
                  ceilingReported := c.ceilingReported || diverted }
            ∧ (t.hoseCtl.get h).accumulator =
                (if k = 0 then a
                 else
                   ⟨min 999999 (a.gross + k), min 999999 (a.net + n),
                    some (a.windowStart.getD s.clock.counter), some s.clock.counter⟩)
            ∧ (n = 0 → t.stock = s.stock)
            ∧ (0 < n →
                (t.stock.get (hoseComp h)).book = book
                ∧ (t.stock.get (hoseComp h)).dispensed = (x.dispensed + n) % 1099511627776)
            ∧ restockFollows (hoseComp h) s t
            ∧ (∀ d, d ≠ hoseComp h → t.stock.get d = s.stock.get d)
            ∧ t.receipts = s.receipts.set (hoseComp h) ((s.receipts.get (hoseComp h)).counting n)
            ∧ (watched ∧ full → exceptionFollows h .leak s t ∧ (t.hoseCtl.get h).leakArmed = false)
            ∧ (¬ (watched ∧ full) →
                exceptionStands h s t ∧ (t.hoseCtl.get h).leakArmed = k0.leakArmed)
            ∧ (t.hoseCtl.get h).leakWindow =
                (if s.slotState h ≠ .closing ∧ t.slotState h = .closing then []
                 else if watched then window else k0.leakWindow)
            ∧ (cuts → (s.slotState h).running = true →
                t.slots.get h = { s.slots.get h with state := .closing, endCause := some .deadStock })
            ∧ (¬ cuts → diverted = true → c.ceilingReported = false → (s.slotState h).delivers = true →
                t.slots.get h = { s.slots.get h with state := .closing, endCause := some .presetReached })
            ∧ (¬ cuts → (diverted = false ∨ c.ceilingReported = true ∨ (s.slotState h).delivers = false) →
                t.slots.get h = s.slots.get h)
            ∧ ((s.slotState h).running = false → t.slots.get h = s.slots.get h)
            ∧ t = { s with
                now := now, chan := t.chan, slots := t.slots, hoseCtl := t.hoseCtl, tracking := t.tracking
                pumps := t.pumps, stock := t.stock, receipts := t.receipts, ports := t.ports
                out := t.out })))

/-- R9 to R11: a valid sample is clamped and marked, makes the channel VALID and restarts the 1-s absence timer.
An invalid sample, and the absence timer's expiry, take a VALID channel that holds a reading to HOLDING with the
10-s hold timer, whose expiry makes it SUBSTITUTED. -/
def Obligations.TemperatureStates : Prop :=
  ∀ (s : State) (h : Hose) (v : Int),
    let c := s.chan.get h
    let held : Channel :=
      if c.tempState = .valid then { c with tempState := .holding, holdTimer := some (s.now + 10000) } else c
    (∃ t, exec (.temperatureSample h true v) s = .next t
      ∧ t = { s with
          chan := s.chan.set h
            { c with
              lastTemp := some ⟨max (-400) (min 600 v), decide (v < -400 ∨ 600 < v)⟩
              tempState := .valid, holdTimer := none, absenceTimer := some (s.now + 1000) }
          out := t.out })
    ∧ ((c.tempState = .valid → c.lastTemp.isSome = true) →
      ∃ t, exec (.temperatureSample h false v) s = .next t
        ∧ t = { s with
            chan := s.chan.set h { held with absenceTimer := some (s.now + 1000) }, out := t.out })
    ∧ ((c.tempState = .valid → c.lastTemp.isSome = true) → c.absenceTimer.isSome = true →
      ∃ t, exec (.sampleAbsenceExpiry h) s = .next t
        ∧ t = { s with chan := s.chan.set h { held with absenceTimer := none }, out := t.out })
    ∧ (c.tempState = .holding → c.holdTimer.isSome = true →
      ∃ t, exec (.holdTimerExpiry h) s = .next t
        ∧ t = { s with
            chan := s.chan.set h { c with tempState := .substituted, holdTimer := none }, out := t.out })

/-! ### Nozzles, emergency stop, park brake, hose timers -/

/-- R39, R95, R51: a lift with the lift armed and the slot IDLE opens the slot in IDENT with its 120-s timer,
disarms the lift and starts the nozzle reader qualifying; any other lift moves the level alone. A return arms
the lift, abandons a slot before READY and takes a running one to CLOSING with NOZZLE_RETURNED. -/
def Obligations.NozzleEvents : Prop :=
  ∀ (s : State) (h : Hose),
    (s.switches.nozzleIn.get h = true →
      let moved := { s.switches with nozzleIn := s.switches.nozzleIn.set h false }
      (s.supply = .normal → (s.hoseCtl.get h).liftArmed = true → s.slotState h = .idle →
        ∃ t, exec (.nozzleLift h) s = .next t
          ∧ t.slots = s.slots.set h { Slot.fresh with state := .ident, identTimer := some (s.now + 120000) }
          ∧ t.hoseCtl = s.hoseCtl.set h { s.hoseCtl.get h with liftArmed := false }
          ∧ t.nozzleReader = s.nozzleReader.set h
              { s.nozzleReader.get h with
                link := .qualifying, stableTimer := some (s.now + 250), qualifyLimit := some (s.now + 1000)
                retryTimer := none, pollTimer := none, held := none, misses := 0, fetchLeft := 0
                fetchUnanswered := 0 }
          ∧ t.out.coil.get h = true
          ∧ t.logoffTimer = none
          ∧ t.ports = (s.raise (.hoseState h)).ports
          ∧ t = { s with
              switches := moved, slots := t.slots, hoseCtl := t.hoseCtl, nozzleReader := t.nozzleReader
              logoffTimer := t.logoffTimer, pumps := t.pumps, ports := t.ports, out := t.out })
      ∧ ((s.supply = .saved ∨ (s.hoseCtl.get h).liftArmed = false ∨ s.slotState h ≠ .idle) →
        ∃ t, exec (.nozzleLift h) s = .next t ∧ t = { s with switches := moved, out := t.out }))
    ∧ (s.switches.nozzleIn.get h = false →
      let moved := { s.switches with nozzleIn := s.switches.nozzleIn.set h true }
      (s.supply = .saved →
        ∃ t, exec (.nozzleReturn h) s = .next t ∧ t = { s with switches := moved, out := t.out })
      ∧ (s.supply = .normal → (s.slotState h = .idle ∨ s.slotState h = .closing) →
        ∃ t, exec (.nozzleReturn h) s = .next t
          ∧ t = { s with
              switches := moved
              hoseCtl := s.hoseCtl.set h { s.hoseCtl.get h with liftArmed := true }, out := t.out })
      ∧ (s.supply = .normal → (s.slotState h).running = true →
        ∃ t, exec (.nozzleReturn h) s = .next t
          ∧ t.slots = s.slots.set h
              { s.slots.get h with state := .closing, endCause := some .nozzleReturned }
          ∧ t.hoseCtl = s.hoseCtl.set h
              { s.hoseCtl.get h with
                liftArmed := true, flowStop := none, noFlow := none, pause := none
                settle := some (s.now + 1500), flowWindow := [], leakWindow := [] }
          ∧ t.ports = (s.raise (.hoseState h)).ports
          ∧ t.out.main.get h = false ∧ t.out.slow.get h = false
          ∧ t = { s with
              switches := moved, slots := t.slots, hoseCtl := t.hoseCtl, tracking := t.tracking
              pumps := t.pumps, ports := t.ports, out := t.out })
      ∧ (s.supply = .normal → (s.slotState h).waiting = true →
        ∃ t, exec (.nozzleReturn h) s = .next t
          ∧ t.slots = s.slots.set h Slot.fresh
          ∧ t.hoseCtl = s.hoseCtl.set h { s.hoseCtl.get h with liftArmed := true }
          ∧ (t.nozzleReader.get h).link = .off ∧ t.pendingTag.get h = false
          ∧ t.out.coil.get h = false
          ∧ (∀ q ∈ t.roster.requests, q.waiters.get h = false)
          ∧ (∀ k, k ≠ h → t.chan.get k = s.chan.get k ∧ t.nozzleReader.get k = s.nozzleReader.get k)
          ∧ t = { s with
              switches := moved, slots := t.slots, hoseCtl := t.hoseCtl, tracking := t.tracking
              nozzleReader := t.nozzleReader, pendingTag := t.pendingTag, chan := t.chan
              roster := t.roster, logoffTimer := t.logoffTimer, pumps := t.pumps, gauge := t.gauge
              ports := t.ports, out := t.out }))

/-- R40, R146, R49: the emergency stop forces every drive off. In NORMAL it closes each running slot with ESTOP,
abandons each slot before READY and ends each FILLING receipt with ABORTED; in SAVED it moves the level and
raises the event alone. Its release lifts the forcing, raises the event and resumes nothing. -/
def Obligations.EmergencyStop : Prop :=
  (∀ s : State, s.switches.estop = false →
    (s.supply = .normal →
      ∃ t, exec .estopAssert s = .next t
        ∧ t.switches = { s.switches with estop := true }
        ∧ (∀ h, t.slots.get h =
            (if (s.slotState h).running = true then
               { s.slots.get h with state := .closing, endCause := some .estop }
             else if (s.slotState h).waiting = true then Slot.fresh
             else s.slots.get h))
        ∧ (∀ h, (s.slotState h).running = true → (t.hoseCtl.get h).settle = some (s.now + 1500))
        ∧ (∀ c, t.receipts.get c =
            (if (s.receipts.get c).state = .filling then
               { s.receipts.get c with
                 state := .settling, aborted := true, fillEnd := some s.clock.counter
                 limit := some (s.now + 900000)
                 qualification :=
                   if (s.gauge.get c).state = .valid then some (s.now + 120000) else none }
             else s.receipts.get c))
        ∧ (∀ c, (t.pumps.get c).runOn = none)
        ∧ (t.ports.get .panel).hasFlag .panel .estop = true
        ∧ t.out.main = PerHose.all false ∧ t.out.slow = PerHose.all false
        ∧ t.out.pump = PerComp.all false ∧ t.out.inlet = PerComp.all false
        ∧ t = { s with
            switches := t.switches, slots := t.slots, hoseCtl := t.hoseCtl, tracking := t.tracking
            nozzleReader := t.nozzleReader, pendingTag := t.pendingTag, chan := t.chan
            roster := t.roster, logoffTimer := t.logoffTimer, pumps := t.pumps, gauge := t.gauge
            receipts := t.receipts, ports := t.ports, out := t.out })
    ∧ (s.supply = .saved →
      ∃ t, exec .estopAssert s = .next t
        ∧ t = { s with
            switches := { s.switches with estop := true }, ports := (s.raise .estop).ports, out := t.out }))
  ∧ ∀ s : State, s.switches.estop = true →
    ∃ t, exec .estopRelease s = .next t
      ∧ t = { s with
          switches := { s.switches with estop := false }, ports := (s.raise .estop).ports, out := t.out }

/-- R41, R34, R35, R123: the release of the park brake adds MOTION to the hold set of each slot from READY to
PAUSED, which pauses one that delivers under an empty set, and empties the level histories. Its setting takes
MOTION out of every hold set, and a PAUSED slot held by nothing else leaves PAUSED. Both re-evaluate the
gauges, and a setting leaves the level histories as they stand, so that with fewer than ten levels no gauge is
VALID after it (R125). -/
def Obligations.ParkBrake : Prop :=
  (∀ s : State, s.switches.brakeReleased = false →
    ∃ t, exec .parkBrakeRelease s = .next t
      ∧ t.switches = { s.switches with brakeReleased := true }
      ∧ (s.supply = .saved → t.slots = s.slots)
      ∧ (s.supply = .normal →
        ∀ h, t.slots.get h =
          (if (s.slotState h).running = true then
             { s.slots.get h with
               holds := { (s.slots.get h).holds with motion := true }
               state :=
                 if (s.slots.get h).holds.isEmpty && (s.slotState h).delivers then .paused
                 else s.slotState h }
           else s.slots.get h)
          ∧ ((s.slots.get h).holds.isEmpty = true → (s.slotState h).delivers = true →
              (t.hoseCtl.get h).pause = some (s.now + 300000)))
      ∧ (∀ c, (t.gauge.get c).history = [] ∧ (t.gauge.get c).state = t.gaugeStateOf c)
      ∧ t = { s with
          switches := t.switches, slots := t.slots, hoseCtl := t.hoseCtl, pumps := t.pumps
          gauge := t.gauge, receipts := t.receipts, ports := t.ports, out := t.out })
  ∧ ∀ s : State, s.switches.brakeReleased = true →
    ∃ t, exec .parkBrakeSet s = .next t
      ∧ t.switches = { s.switches with brakeReleased := false }
      ∧ (s.supply = .saved → t.slots = s.slots)
      ∧ (s.supply = .normal →
        ∀ h, (t.slots.get h).holds = { (s.slots.get h).holds with motion := false }
          ∧ ((s.slots.get h).holds.motion = false ∨ s.slotState h ≠ .paused
              ∨ (t.slots.get h).holds.isEmpty = false → t.slotState h = s.slotState h)
          ∧ ((s.slots.get h).holds.motion = true → s.slotState h = .paused →
              (t.slots.get h).holds.isEmpty = true →
              t.slotState h = .ready ∨ t.slotState h = .slowing ∨ t.slotState h = .closing))
      ∧ (∀ c, (t.gauge.get c).history = (s.gauge.get c).history
          ∧ (t.gauge.get c).state = t.gaugeStateOf c
          ∧ ((s.gauge.get c).history.length < 10 → (t.gauge.get c).state ≠ .valid))
      ∧ t = { s with
          switches := t.switches, slots := t.slots, hoseCtl := t.hoseCtl, tracking := t.tracking
          pumps := t.pumps, gauge := t.gauge, receipts := t.receipts, ports := t.ports, out := t.out }

/-- R29, R30, R36, R65, R42: the flow-stop timer returns a FLOWING slot to READY with both valves' states
unchanged; the no-flow timer, the pause timer and the restore window close their slots with NO_FLOW, PAUSE_LIMIT
and TAG_NOT_RESTORED; the run-on timer's expiry stops the pump unless a hose demands it. That the tracking miss
count stands when tracking stops is the model's choice (log 42). -/
def Obligations.HoseTimerExpiries : Prop :=
  ∀ (s : State) (h : Hose),
    ((s.hoseCtl.get h).flowStop.isSome = true → s.slotState h = .flowing →
      ∃ t, exec (.flowStopExpiry h) s = .next t
        ∧ t.slots = s.slots.set h { s.slots.get h with state := .ready }
        ∧ t.hoseCtl = s.hoseCtl.set h
            { s.hoseCtl.get h with flowStop := none, flowWindow := [], leakWindow := [], leakArmed := true }
        ∧ t.ports = (s.raise (.hoseState h)).ports
        ∧ t.out.main.get h = s.outputs.main.get h ∧ t.out.slow.get h = s.outputs.slow.get h
        ∧ t.out.main.get h = !s.drivesForced (hoseComp h)
        ∧ t.out.slow.get h = !s.drivesForced (hoseComp h)
        ∧ t = { s with
            slots := t.slots, hoseCtl := t.hoseCtl, pumps := t.pumps, ports := t.ports, out := t.out })
    ∧ (∀ (i : Instr) (cause : EndCause),
        ((i = .noFlowExpiry h ∧ cause = .noFlow ∧ (s.hoseCtl.get h).noFlow.isSome = true
            ∧ (s.slotState h).delivers = true)
          ∨ (i = .pauseTimerExpiry h ∧ cause = .pauseLimit ∧ (s.hoseCtl.get h).pause.isSome = true
            ∧ s.slotState h = .paused)
          ∨ (i = .tagRestoreExpiry h ∧ cause = .tagNotRestored
            ∧ (s.tracking.get h).restoreWindow.isSome = true
            ∧ (s.slots.get h).holds.tagLost = true ∧ s.slotState h = .paused)) →
        ∃ t, exec i s = .next t
          ∧ t.slots = s.slots.set h { s.slots.get h with state := .closing, endCause := some cause }
          ∧ t.hoseCtl = s.hoseCtl.set h
              { s.hoseCtl.get h with
                flowStop := none, noFlow := none, pause := none, settle := some (s.now + 1500)
                flowWindow := [], leakWindow := [] }
          ∧ t.tracking = s.tracking.set h
              { s.tracking.get h with running := false, restoreWindow := none }
          ∧ t.ports = (s.raise (.hoseState h)).ports
          ∧ t.out.main.get h = false ∧ t.out.slow.get h = false
          ∧ t = { s with
              slots := t.slots, hoseCtl := t.hoseCtl, tracking := t.tracking, pumps := t.pumps
              ports := t.ports, out := t.out })
    ∧ ∀ c, ∃ t, exec (.runOnExpiry c) s = .next t
        ∧ (t.out.pump.get c = true ↔ 0 < (s.pumps.get c).demand ∧ s.drivesForced c = false)
        ∧ t = { s with pumps := s.pumps.set c { s.pumps.get c with runOn := none }, out := t.out }

/-- R111, R113, R159, R1: at the end of the settle a CLOSING slot's figures become the DISPENSE record in its
reserved journal place, the register loses its holder, and the slot returns to IDLE with every field cleared,
its channel unbound with the figures kept, its reader OFF and its tracking ended. Stock, receipts and every
other channel stay. The account's period totals gain net, amount and one transaction, each up to its maximum,
and while the site day of the authorisation stands the charge, min(net, authorised), joins the day charged and
the machine's Day Usage List entry (R87, R112). Plausible hours reach that entry and the roster entry unless a
greater value stands (R63). The slot's pin is released, and at zero the entry settles (R72, R84). That unbinding
arms the REVERSE_EXCESS report again (log 40) and that the return to IDLE sets the tracking miss count to 0 (log
42) are the model's choices. -/
def Obligations.CompletionWritesRecord : Prop :=
  ∀ (s : State) (h : Hose) (mark : Bool), (s.hoseCtl.get h).settle.isSome = true → s.slotState h = .closing →
    s.journal.register.hoses.get h = some mark → (s.chan.get h).bound = true →
    let x := s.slots.get h
    let c := s.chan.get h
    let flags : SlotFlags :=
      { x.flags with
        overAuthorised := x.flags.overAuthorised || decide (x.authorisedVolume < c.txn.net)
        clockInvalid := x.flags.clockInvalid || !s.clock.valid }
    let r : DispenseRecord :=
      { hose := h, machine := x.machine, method := x.method, operator := x.operator, account := x.account
        authorised := x.authorised, gross := c.txn.gross, net := c.txn.net
        meanTemp := if c.txn.gross = 0 then none else some (150 + roundedDiv c.txn.w c.txn.gross)
        price := x.price, amount := c.txn.amount, authTime := x.authTime, authDay := x.authDay
        endTime := s.clock.counter, endCause := x.endCause, hours := x.hours
        exception := (s.hoseCtl.get h).transactionException, unmetered := none
        grossTotalizer := c.grossTotalizer, flags := flags }
    let charge := min c.txn.net x.authorisedVolume
    let sameDay : Prop := s.roster.stamp = x.authDay.getD 0
    let later (last : Option Nat) : Option Nat :=
      match x.hours with
      | none => last
      | some v => if x.flags.hoursImplausible = true then last else some (max (last.getD 0) v.hours)
    ∃ t, exec (.settleTimerExpiry h) s = .next t
      ∧ t.slots = s.slots.set h Slot.fresh
      ∧ t.hoseCtl = s.hoseCtl.set h { s.hoseCtl.get h with settle := none }
      ∧ t.chan = s.chan.set h
          { c with bound := false, debt := 0, phaseErrors := 0, excessReported := false, lastChanged := none }
      ∧ t.journal = { s.journal with
          records := s.journal.records ++
            [⟨s.journal.next, flags.clockInvalid || !s.clock.valid || mark, .dispense r⟩]
          next := s.journal.next + 1
          register := s.journal.register.put (.hose h) none }
      ∧ (∀ m, x.machine = some m → ∀ i, x.account = some i →
          t.roster.accounts.get i =
            (let a := s.roster.accounts.get i
             { a with
               dayCharged := if sameDay then a.dayCharged + charge else a.dayCharged
               periodNet := min 99999999999 (a.periodNet + c.txn.net)
               periodAmount := min 999999999999 (a.periodAmount + c.txn.amount)
               periodCount := min 4294967295 (a.periodCount + 1) })
          ∧ (∀ j, j ≠ i → t.roster.accounts.get j = s.roster.accounts.get j)
          ∧ t.roster.usage = s.roster.usage.map fun u =>
              if u.machine = m then
                { u with
                  charged := if sameDay then u.charged + charge else u.charged
                  transactions := if sameDay then min 255 (u.transactions + 1) else u.transactions
                  lastHours := later u.lastHours }
              else u)
      ∧ (x.entry = none → t.roster.cache = s.roster.cache)
      ∧ (∀ m, x.machine = some m → ∀ w, x.entry = some w → ∀ e, s.roster.entryAt w = some e →
          (let kept : Entry := { e with body := { e.body with lastHours := later e.body.lastHours } }
           t.roster.entryAt w =
             (if 1 < e.pins then some { kept with pins := e.pins - 1 }
              else
                match e.pendingUpdate, e.origin with
                | some (.replace b), _ => some ⟨t.roster.checkedBody b, .roster, 0, none⟩
                | some .drop, _ => none
                | none, .provisional => none
                | none, .roster => some { kept with pins := 0 }))
          ∧ ∀ v, v ≠ w → t.roster.entryAt v = s.roster.entryAt v)
      ∧ t.roster = { s.roster with
          accounts := t.roster.accounts, usage := t.roster.usage, cache := t.roster.cache }
      ∧ (t.nozzleReader.get h).link = .off ∧ t.pendingTag.get h = false
      ∧ t.tracking = s.tracking.set h { running := false, misses := 0, restoreWindow := none }
      ∧ (t.ports.get .office).hasFlag .office .journalNew = (s.supply == .normal
          || (s.ports.get .office).hasFlag .office .journalNew)
      ∧ t = { s with
          slots := t.slots, hoseCtl := t.hoseCtl, chan := t.chan, journal := t.journal
          nozzleReader := t.nozzleReader, pendingTag := t.pendingTag, tracking := t.tracking
          roster := t.roster, logoffTimer := t.logoffTimer, pumps := t.pumps, gauge := t.gauge
          ports := t.ports, out := t.out }

/-! ### Tag readers -/

/-- R51 to R53, R68: an unsettled field restarts the stable-field timer; its expiry takes a QUALIFYING reader to
LISTENING; the qualify limit, or a fault report in any state but OFF, takes a reader to FAULT with READER_FAULT,
in FAULT again, with PR's retry timer afresh; a lost field takes a polling reader back to QUALIFYING, and PR's
retry takes it there from FAULT; the poll timer restarts; the supervisor window closes at its expiry. No other
reader changes. That FAULT drops what the reader held, that a lost field starts both qualify timers, and that one
in the fetch of a waiting slot's own tag hands no hours on, are the model's (logs 16, 28, 48). -/
def Obligations.ReaderStates : Prop :=
  ∀ (s : State) (r : Reader), s.supply = .normal →
    let x := s.reader r
    let qualifying : ReaderState :=
      { x with
        link := .qualifying, stableTimer := some (s.now + 250), qualifyLimit := some (s.now + 1000)
        retryTimer := none, pollTimer := none, held := none, misses := 0, fetchLeft := 0
        fetchUnanswered := 0 }
    let becomes (i : Instr) (y : ReaderState) : Prop :=
      ∃ t, exec i s = .next t ∧ t.reader r = y ∧ (∀ q, q ≠ r → t.reader q = s.reader q)
        ∧ t = { s with nozzleReader := t.nozzleReader, panelReader := t.panelReader, out := t.out }
    (x.link = .qualifying → becomes (.fieldUnsettled r) { x with stableTimer := some (s.now + 250) })
    ∧ (x.link = .qualifying → x.stableTimer.isSome = true →
      becomes (.stableFieldExpiry r)
        { x with
          link := .listening, stableTimer := none, qualifyLimit := none, pollTimer := some (s.now + 200) })
    ∧ ((x.link = .listening ∨ x.link = .tagPresent) → x.pollTimer.isSome = true →
      becomes (.pollTimerExpiry r) { x with pollTimer := some (s.now + 200) })
    ∧ (r = .pr → x.link = .fault → x.retryTimer.isSome = true → becomes .retryTimerExpiry qualifying)
    ∧ ((x.link = .listening ∨ x.link = .tagPresent) →
      ∃ t, exec (.fieldLost r) s = .next t ∧ t.reader r = qualifying
        ∧ (∀ q, q ≠ r → t.reader q = s.reader q)
        ∧ (∀ h, t.pendingTag.get h = (if r = .nr h then false else s.pendingTag.get h))
        ∧ t = { s with
            nozzleReader := t.nozzleReader, panelReader := t.panelReader, pendingTag := t.pendingTag
            out := t.out })
    ∧ (∀ i : Instr,
        ((i = .qualifyLimitExpiry r ∧ x.link = .qualifying ∧ x.qualifyLimit.isSome = true)
          ∨ (i = .frontEndFault r ∧ x.link ≠ .off)
          ∨ (i = .pollResult r .fault ∧ (x.link = .qualifying ∨ x.link = .fault))) →
        ∃ t, exec i s = .next t
          ∧ t.reader r =
            { x with
              link := .fault, stableTimer := none, qualifyLimit := none, pollTimer := none
              retryTimer := if r = .pr then some (s.now + 10000) else none
              held := none, misses := 0, fetchLeft := 0, fetchUnanswered := 0
              lastEvent := some ⟨.readerFault, none, s.clock.counter⟩ }
          ∧ (∀ q, q ≠ r → t.reader q = s.reader q)
          ∧ (∀ h, t.pendingTag.get h = (if r = .nr h then false else s.pendingTag.get h))
          ∧ t.ports = (s.raise .tagEvent).ports
          ∧ t = { s with
              nozzleReader := t.nozzleReader, panelReader := t.panelReader, pendingTag := t.pendingTag
              ports := t.ports, out := t.out })
    ∧ (x.link = .off → ∃ t, exec (.frontEndFault r) s = .next t ∧ t = { s with out := t.out })
    ∧ (s.supervisor.isSome = true →
      ∃ t, exec .supervisorWindowExpiry s = .next t
        ∧ t = { s with
            supervisor := none
            panelReader :=
              { s.panelReader with lastEvent := some ⟨.supervisorClosed, none, s.clock.counter⟩ }
            ports := (s.raise .tagEvent).ports, out := t.out })

/-- R54 to R58, R64 to R67: an operator tag logs on at PR. A supervisor tag there opens or restarts the 60-s
supervisor window (R68), and a slot in OVERRIDE_WAIT is then given a provisional entry, or the one cached since,
with method OVERRIDE, and makes its attempt (R82; that the cached one's replacement bits stay is log 21). A
machine tag claims a slot in IDENT while its next pages are fetched, and with none to fetch is identified at
once. The third miss in a row takes a reader back to LISTENING. On a tracked hose another machine's tag closes
the slot with TAG_MISMATCH, and the third miss adds TAG_LOST with the 60-s restore window. -/
def Obligations.TagPolls : Prop :=
  ∀ (s : State) (h : Hose) (b : BasePage) (tag : HeldTag), s.supply = .normal →
    let x := s.nozzleReader.get h
    let taken (y : ReaderState) (pages : Nat) : ReaderState :=
      { y with
        link := .tagPresent, held := some tag, misses := 0, lastBase := some b, nextPages := []
        fetchLeft := pages, fetchUnanswered := 0 }
    (acceptedTag .pr b = some tag → tag.tagClass = .operator → s.panelReader.link = .listening →
      ∃ t, exec (.pollResult .pr (.basePage b (baseCheck b))) s = .next t
        ∧ t = { s with
            operator := some tag.number
            logoffTimer := if s.allIdle = true then some (s.now + 1800000) else none
            panelReader :=
              { taken s.panelReader 0 with
                lastEvent := some ⟨.operatorOn, some tag.number, s.clock.counter⟩ }
            ports := (s.raise .tagEvent).ports, out := t.out })
    ∧ (acceptedTag .pr b = some tag → tag.tagClass = .supervisor → s.panelReader.link = .listening →
      let opened : State :=
        { s with
          supervisor := some (s.now + 60000)
          panelReader :=
            { taken s.panelReader 0 with
              lastEvent := some ⟨.supervisorOpen, some tag.number, s.clock.counter⟩ }
          ports := (s.raise .tagEvent).ports }
      ((∀ k, s.slotState k ≠ .overrideWait) →
        ∃ t, exec (.pollResult .pr (.basePage b (baseCheck b))) s = .next t
          ∧ t = { opened with out := t.out })
      ∧ (s.slotState h = .overrideWait → (∀ k, k ≠ h → s.slotState k ≠ .overrideWait) →
        ∀ m, (s.slots.get h).machine = some m →
        let given (w : WayRef) : PerHose Slot :=
          s.slots.set h { s.slots.get h with method := some .override, entry := some w }
        (∀ w, s.roster.findWay m = some w →
          ∃ t, exec (.pollResult .pr (.basePage b (baseCheck b))) s = .next t
            ∧ t = { ({ opened with slots := given w, roster := s.roster.pin w } : State).attempt h with
                out := t.out })
        ∧ (s.roster.findWay m = none →
          let way : WayRef := ⟨machineSet m, (s.roster.cache.get (machineSet m)).victim⟩
          let body : EntryBody :=
            { machine := m, account := s.roster.site.offlineAccount, permitsA := true, permitsB := true
              perFill := some s.roster.site.offlineCap
              daily := some (max s.roster.site.offlineCap (s.roster.chargedToday m))
              usedElsewhere := 0, barred := false, hoursRequired := false, manualAllowed := false
              neckCheck := false, lastHours := none, maxJump := 20000 }
          let u : State :=
            { opened with
              slots := given way
              roster := (s.roster.fill (provisionalBody s.roster.site m) .provisional).pin way
              ports := (opened.raise .provisional).ports }
          u.roster.entryAt way = some ⟨body, .provisional, 1, none⟩
          ∧ (∀ w, w ≠ way → u.roster.entryAt w = s.roster.entryAt w)
          ∧ ∃ t, exec (.pollResult .pr (.basePage b (baseCheck b))) s = .next t
              ∧ t = { u.attempt h with out := t.out })))
    ∧ (acceptedTag (.nr h) b = some tag → x.link = .listening → s.slotState h = .ident →
      s.pendingTag.get h = false → (s.tracking.get h).running = false →
      (0 < pageNextCount b →
        ∃ t, exec (.pollResult (.nr h) (.basePage b (baseCheck b))) s = .next t
          ∧ t = { s with
              nozzleReader := s.nozzleReader.set h (taken x (pageNextCount b))
              pendingTag := s.pendingTag.set h true, out := t.out })
      ∧ (pageNextCount b = 0 →
        ∃ t, exec (.pollResult (.nr h) (.basePage b (baseCheck b))) s = .next t
          ∧ t = { ({ s with nozzleReader := s.nozzleReader.set h (taken x 0) }).identify h
                ⟨tag.number, .tag, some (pageInlet b), none, none⟩ with out := t.out }))
    ∧ (acceptedTag (.nr h) b = some tag → x.link = .listening → (s.tracking.get h).running = true →
      (s.slotState h).running = true → (s.slots.get h).machine ≠ some tag.number →
      ∃ t, exec (.pollResult (.nr h) (.basePage b (baseCheck b))) s = .next t
        ∧ t.slots = s.slots.set h { s.slots.get h with state := .closing, endCause := some .tagMismatch }
        ∧ (t.nozzleReader.get h).lastEvent = some ⟨.tagNotUsed, some tag.number, s.clock.counter⟩
        ∧ (t.tracking.get h).running = false
        ∧ t = { s with
            nozzleReader := t.nozzleReader, pendingTag := t.pendingTag, slots := t.slots
            hoseCtl := t.hoseCtl, tracking := t.tracking, pumps := t.pumps, ports := t.ports
            out := t.out })
    ∧ (x.link = .tagPresent → x.fetchLeft = 0 → (s.tracking.get h).running = false →
      ∃ t, exec (.pollResult (.nr h) .noAnswer) s = .next t
        ∧ t = { s with
            nozzleReader := s.nozzleReader.set h
              (if 2 ≤ x.misses then
                 { x with link := .listening, held := none, misses := 0, fetchUnanswered := 0 }
               else { x with misses := x.misses + 1 })
            out := t.out })
    ∧ ((s.tracking.get h).running = true → (x.link = .off ∨ x.link = .qualifying ∨ x.link = .fault) →
      ((s.tracking.get h).misses < 2 →
        ∃ t, exec (.trackingMissInterval h) s = .next t
          ∧ t = { s with
              tracking := s.tracking.set h
                { s.tracking.get h with misses := (s.tracking.get h).misses + 1 }
              out := t.out })
      ∧ ((s.tracking.get h).misses = 2 → (s.slots.get h).holds.isEmpty = true →
        (s.slotState h).delivers = true →
        ∃ t, exec (.trackingMissInterval h) s = .next t
          ∧ t.slots = s.slots.set h
              { s.slots.get h with
                state := .paused, holds := { (s.slots.get h).holds with tagLost := true } }
          ∧ t.tracking = s.tracking.set h
              { s.tracking.get h with misses := 3, restoreWindow := some (s.now + 60000) }
          ∧ (t.hoseCtl.get h).pause = some (s.now + 300000)
          ∧ t = { s with
              slots := t.slots, hoseCtl := t.hoseCtl, tracking := t.tracking, pumps := t.pumps
              ports := t.ports, out := t.out }))

/-! ### Slot timers and roster waits -/

/-- R96, R109, R81: the identification timer abandons a slot in IDENT, LOOKUP or HOURS_WAIT, and the override
window one in OVERRIDE_WAIT: every field cleared, the reader OFF, no request left waiting for it. A roster
wait's expiry removes the request and takes its waiting slot to OVERRIDE_WAIT with the 60-s window. -/
def Obligations.SlotTimerExpiries : Prop :=
  ∀ (s : State) (h : Hose),
    (∀ i : Instr,
      ((i = .identificationTimerExpiry h ∧ (s.slots.get h).identTimer.isSome = true
          ∧ (s.slotState h = .ident ∨ s.slotState h = .lookup ∨ s.slotState h = .hoursWait))
        ∨ (i = .overrideWindowExpiry h ∧ (s.slots.get h).overrideTimer.isSome = true
          ∧ s.slotState h = .overrideWait)) →
      ∃ t, exec i s = .next t
        ∧ t.slots = s.slots.set h Slot.fresh
        ∧ (t.nozzleReader.get h).link = .off ∧ t.pendingTag.get h = false ∧ t.out.coil.get h = false
        ∧ (∀ q ∈ t.roster.requests, q.waiters.get h = false)
        ∧ (∀ k, k ≠ h → t.chan.get k = s.chan.get k ∧ t.nozzleReader.get k = s.nozzleReader.get k)
        ∧ t = { s with
            slots := t.slots, tracking := t.tracking, nozzleReader := t.nozzleReader
            pendingTag := t.pendingTag, chan := t.chan, roster := t.roster, logoffTimer := t.logoffTimer
            pumps := t.pumps, gauge := t.gauge, ports := t.ports, out := t.out })
    ∧ ∀ (m : BitVec 24) (q : RosterRequest), s.supply = .normal → s.supervisor = none →
      s.roster.requests.find? (fun q => q.machine == m.toNat) = some q → q.waiters.get h = true →
      s.slotState h = .lookup → (∀ k, k ≠ h → q.waiters.get k = true → s.slotState k ≠ .lookup) →
      ∃ t, exec (.rosterWaitExpiry m) s = .next t
        ∧ t.slots = s.slots.set h
            { s.slots.get h with
              state := .overrideWait, identTimer := none, overrideTimer := some (s.now + 60000) }
        ∧ t.roster = { s.roster with
            requests := s.roster.requests.eraseP fun q => q.machine == m.toNat }
        ∧ t.ports = (s.raise (.hoseState h)).ports
        ∧ t = { s with
            slots := t.slots, roster := t.roster, pumps := t.pumps, ports := t.ports, out := t.out }

/-! ### Gauges, variance checks, receipts' timers, overfill -/

/-- R123 to R127, R145, R130, R131: a probe frame joins its record with the 5-s absence timer and the level
history, a history of fewer than ten levels is never VALID, and a frame in VALID becomes the last valid gauge; at
the high-high level it trips a FILLING receipt. The absence timer makes the gauge ABSENT. A tilt reading, and its
absence, re-evaluate both gauges. The two timers of the variance monitor end in a check where one is due. That no
level joins the history while the park brake is released is the model's reading (log 47). -/
def Obligations.GaugeEvents : Prop :=
  ∀ (s : State) (c : Comp),
    let g := s.gauge.get c
    (∀ (level : Nat) (temp : Int) (ok : Bool),
      let f : GaugeFrame := ⟨min 40000 level, max (-400) (min 600 temp), ok⟩
      ∃ t, exec (.probeFrame c level temp ok) s = .next t
        ∧ (t.gauge.get c).latest = some f
        ∧ (t.gauge.get c).absenceTimer = some (s.now + 5000)
        ∧ (t.gauge.get c).history =
            (if ok = true ∧ s.switches.brakeReleased = false then pushLevel g.history f.level else [])
        ∧ (t.gauge.get c).state = t.gaugeStateOf c
        ∧ ((t.gauge.get c).history.length < 10 → (t.gauge.get c).state ≠ .valid)
        ∧ (t.gauge.get c).lastValid =
            (if (t.gauge.get c).state = .valid then some (s.gaugeReading c f) else g.lastValid)
        ∧ (s.supply = .normal → (s.receipts.get c).state = .filling → ok = true →
            s.cal.highHigh.get c ≤ f.level →
            (t.receipts.get c).state = .settling ∧ (t.receipts.get c).overfillTrip = true
            ∧ (t.receipts.get c).fillEnd = some s.clock.counter
            ∧ (t.ports.get .depot).hasFlag .depot .overfill = true)
        ∧ (∀ d, d ≠ c → t.gauge.get d = s.gauge.get d ∧ t.receipts.get d = s.receipts.get d)
        ∧ t = { s with gauge := t.gauge, receipts := t.receipts, ports := t.ports, out := t.out })
    ∧ (g.absenceTimer.isSome = true →
      ∃ t, exec (.frameAbsenceExpiry c) s = .next t
        ∧ (t.gauge.get c).state = .absent ∧ (t.gauge.get c).history = []
        ∧ (t.gauge.get c).absenceTimer = none ∧ (t.gauge.get c).latest = g.latest
        ∧ (t.gauge.get c).lastValid = g.lastValid
        ∧ (g.state = .valid →
            (t.gauge.get c).validSince = none ∧ (t.gauge.get c).validQualification = none)
        ∧ (∀ d, d ≠ c → t.gauge.get d = s.gauge.get d ∧ t.receipts.get d = s.receipts.get d)
        ∧ t = { s with gauge := t.gauge, receipts := t.receipts, ports := t.ports, out := t.out })
    ∧ (∀ pitch roll, ∃ t, exec (.inclinometerReading pitch roll) s = .next t
        ∧ t.tilt = ⟨some ⟨pitch, roll⟩, some (s.now + 2000)⟩
        ∧ (∀ d, (t.gauge.get d).state = t.gaugeStateOf d)
        ∧ t = { s with
            tilt := t.tilt, gauge := t.gauge, receipts := t.receipts, ports := t.ports, out := t.out })
    ∧ (s.tilt.absenceTimer.isSome = true →
      ∃ t, exec .readingAbsenceExpiry s = .next t
        ∧ t.tilt = ⟨s.tilt.reading, none⟩
        ∧ (∀ d, (t.gauge.get d).state = t.gaugeStateOf d ∧ (t.gauge.get d).state ≠ .valid)
        ∧ t = { s with
            tilt := t.tilt, gauge := t.gauge, receipts := t.receipts, ports := t.ports, out := t.out })
    ∧ ∀ i : Instr,
      ((i = .validQualificationExpiry c ∧ g.validQualification.isSome = true ∧ g.spacing = none)
        ∨ (i = .spacingTimerExpiry c ∧ g.spacing.isSome = true ∧ g.validQualification = none)) →
      let due : Prop := s.supply = .normal ∧ s.compIdle c = true ∧ (s.receipts.get c).state = .closed
        ∧ g.state = .valid
      (¬ due →
        ∃ t, exec i s = .next t
          ∧ t = { s with
              gauge := s.gauge.set c { g with validQualification := none, spacing := none }, out := t.out })
      ∧ (due → ∀ r, g.lastValid = some r →
        let book := (s.stock.get c).book
        let tolerance := s.cal.tolAbsolute + s.cal.tolPpm * book.natAbs / 1000000
        let beyond : Bool := decide (tolerance < (r.net - book).natAbs)
        ∃ t, exec i s = .next t
          ∧ t.gauge = s.gauge.set c
              { g with
                validQualification := none, spacing := some (s.now + 600000)
                lastCheck := some ⟨r.net - book, tolerance, beyond, s.clock.counter⟩ }
          ∧ t.ports = (if beyond then (s.raise .stockVariance).ports else s.ports)
          ∧ t = { s with gauge := t.gauge, ports := t.ports, out := t.out })

/-- R138, R139, R140, R144: the opening qualification takes the opening snapshot and fills, with the inlet open
while nothing forces it closed; an overfill input turns it to SETTLING at once. The opening limit cancels. An
overfill assertion ends a fill with OVERFILL_TRIP and shuts the inlet, and its release lifts the forcing
alone. -/
def Obligations.OpeningAndOverfill : Prop :=
  ∀ (s : State) (c : Comp),
    let r := s.receipts.get c
    let opened : Receipt :=
      { r with
        v0 := (s.gauge.get c).lastValid.map fun v => ⟨v.net, v.level, v.aboveTable⟩
        dispensed := some 0, limit := none, qualification := none, fillStart := some s.clock.counter }
    let settled (x : Receipt) : Receipt :=
      { x with
        state := .settling, overfillTrip := true, fillEnd := some s.clock.counter
        limit := some (s.now + 900000)
        qualification := if (s.gauge.get c).state = .valid then some (s.now + 120000) else none }
    let overfilled (b : Bool) : Switches := { s.switches with overfill := s.switches.overfill.set c b }
    (r.state = .opening → r.qualification.isSome = true → s.switches.overfill.get c = false →
      s.switches.estop = false → s.atHighHigh c = false →
      ∃ t, exec (.openingQualificationExpiry c) s = .next t
        ∧ t.receipts = s.receipts.set c { opened with state := .filling }
        ∧ t.ports = (s.raise (.receiptState c)).ports
        ∧ t.out.inlet.get c = (s.supply == .normal)
        ∧ t = { s with receipts := t.receipts, ports := t.ports, out := t.out })
    ∧ (r.state = .opening → r.qualification.isSome = true → s.switches.overfill.get c = true →
      ∃ t, exec (.openingQualificationExpiry c) s = .next t
        ∧ t.receipts = s.receipts.set c (settled opened)
        ∧ t.out.inlet.get c = false
        ∧ t = { s with receipts := t.receipts, ports := t.ports, out := t.out })
    ∧ (r.state = .opening → r.limit.isSome = true →
      ∃ t, exec (.openingLimitExpiry c) s = .next t
        ∧ t.receipts = s.receipts.set c
            { r with
              state := .closed, outcome := some .cancelled, qualification := none, limit := none
              v0 := none, dispensed := none }
        ∧ t.journal = { s.journal with
            register := s.journal.register.put (.receipt c) none, highLatch := t.journal.highLatch }
        ∧ t = { s with
            receipts := t.receipts, journal := t.journal, gauge := t.gauge, ports := t.ports, out := t.out })
    ∧ (s.switches.overfill.get c = false → s.supply = .normal →
      ∃ t, exec (.overfillAssert c) s = .next t
        ∧ t.receipts = s.receipts.set c
            (match r.state with
             | .filling => settled r
             | .settling => { r with overfillTrip := true }
             | _ => r)
        ∧ (t.ports.get .depot).hasFlag .depot .overfill = true
        ∧ t.out.inlet.get c = false
        ∧ t = { s with
            switches := overfilled true, receipts := t.receipts, ports := t.ports, out := t.out })
    ∧ (s.switches.overfill.get c = false → s.supply = .saved →
      ∃ t, exec (.overfillAssert c) s = .next t
        ∧ t = { s with switches := overfilled true, ports := (s.raise .overfill).ports, out := t.out })
    ∧ ∃ t, exec (.overfillRelease c) s = .next t ∧ t = { s with switches := overfilled false, out := t.out }

/-- R147 to R150, R120: the settling qualification takes the closing snapshot, and measured is V1 − V0 + D; the
settling limit closes without one. The credit, measured on a GAUGE basis and declared otherwise, joins book
stock, one RECEIPT record takes the holder's place, and the receipt is CLOSED with outcome CREDITED. -/
def Obligations.SettlingCloses : Prop :=
  ∀ (s : State) (c : Comp) (mark : Bool) (declared : Nat), (s.receipts.get c).state = .settling →
    s.journal.register.receipts.get c = some mark → (s.receipts.get c).declared = some declared →
    let r := s.receipts.get c
    let closes (i : Instr) (x : Receipt) (credit : Int) : Prop :=
      let book := max (-549755813888) (min 549755813888 ((s.stock.get c).book + credit))
      ∃ t, exec i s = .next t
        ∧ t.receipts = s.receipts.set c
            { x with
              state := .closed, outcome := some .credited, credit := some credit
              closeTime := some s.clock.counter, qualification := none, limit := none }
        ∧ (t.stock.get c).book = book
        ∧ (t.stock.get c).credited = (((s.stock.get c).credited + credit) % 1099511627776).toNat
        ∧ ((t.stock.get c).cut = true ↔ book ≤ s.cal.dead.get c)
        ∧ t.journal = { s.journal with
            register := s.journal.register.put (.receipt c) none, next := s.journal.next + 1
            records := s.journal.records ++
              [⟨s.journal.next, !s.clock.valid || mark,
                .receipt
                  { comp := c, docket := r.docket.getD 0, declared := declared
                    basis := r.basis.getD .docket, v0 := r.v0, v1 := x.v1
                    dispensed := r.dispensed.getD 0, measured := x.measured, variance := x.variance
                    credit := credit, bookAfter := book, openTime := r.openTime.getD 0
                    fillStart := r.fillStart.getD 0, fillEnd := r.fillEnd.getD 0
                    closeTime := s.clock.counter, overfillTrip := r.overfillTrip
                    gaugeUnavailable := x.gaugeUnavailable, aborted := r.aborted }⟩] }
        ∧ (∀ d, d ≠ c → t.stock.get d = s.stock.get d)
        ∧ t = { s with
            receipts := t.receipts, stock := t.stock, journal := t.journal, gauge := t.gauge
            slots := t.slots, hoseCtl := t.hoseCtl, tracking := t.tracking, pumps := t.pumps
            ports := t.ports, out := t.out }
    (r.qualification.isSome = true → ∀ a, r.v0 = some a → ∀ v, (s.gauge.get c).lastValid = some v →
      let measured : Int := v.net - a.net + ((r.dispensed.getD 0 : Nat) : Int)
      closes (.settlingQualificationExpiry c)
        { r with
          v1 := some ⟨v.net, v.level, v.aboveTable⟩, measured := some measured
          variance := some (measured - declared) }
        (if r.basis = some .gauge then measured else declared))
    ∧ (r.limit.isSome = true →
      closes (.settlingLimitExpiry c) { r with gaugeUnavailable := true } declared)

/-! ### Calibration switch and supply -/

/-- R175, R187, R189 to R192, R22, R23: the calibration switch raises CALIBRATION, and its release empties the
staged table. The entry to SAVED writes the Save Area, stops the timers of hoses, readers and receipts (R49,
R69, R152) and of slots (R115) and closes every drive. A ride-through latches the held events, appends the
DISPENSE record of each saved transaction that holds a slot, with the saved figures, POWER_INTERRUPTED and the
unmetered pulses, abandons the slots before READY, continues the saved receipts with their timers afresh, a
FILLING one SETTLING, and starts the pumps, lifts and PR afresh. A power-on gives hoses, readers, slots, gauges,
pumps and the cache their starting values, appends the same records with the unmetered pulses absent, continues
the saved receipts, keeps the non-volatile state and latches RESTARTED with every mask cleared. That the time
starts at 0 (log 2), that POWER_ON carries the levels of the lines and switches (log 7), that PR starts both
qualify timers (log 28) and the latched values before a first binding (log 33) are the model's. -/
def Obligations.CalSwitchAndSupply : Prop :=
  ∀ s : State,
    let interrupted (h : Hose) (v : SavedSlot) (m : SavedMeter) (unmetered : Option Nat) (t : State) : Prop :=
      ∃ rec ∈ t.journal.records.drop s.journal.records.length, ∃ d, rec.body = .dispense d ∧ d.hose = h
        ∧ d.machine = v.slot.machine ∧ d.account = v.slot.account ∧ d.gross = m.txn.gross
        ∧ d.net = m.txn.net ∧ d.amount = m.txn.amount ∧ d.grossTotalizer = m.grossTotalizer
        ∧ d.exception = v.exception ∧ d.unmetered = unmetered ∧ d.flags.powerInterrupted = true
        ∧ d.endCause = (if v.slot.state = .closing then v.slot.endCause else some .powerInterrupted)
    (s.switches.calEnable = false →
      ∃ t, exec .calEnableAssert s = .next t
        ∧ t = { s with
            switches := { s.switches with calEnable := true }, ports := (s.raise .calibration).ports
            out := t.out })
    ∧ (s.switches.calEnable = true →
      ∃ t, exec .calEnableRelease s = .next t
        ∧ t = { s with
            switches := { s.switches with calEnable := false }, cal := { s.cal with staged := none }
            ports := (s.raise .calibration).ports, out := t.out })
    ∧ (s.supply = .normal →
      ∃ t, exec .entryToSaved s = .next t
        ∧ t.supply = .saved ∧ t.save = t.saveArea ∧ t.supervisor = none
        ∧ (∀ h, t.slots.get h = { s.slots.get h with identTimer := none, overrideTimer := none }
            ∧ t.hoseCtl.get h =
              { s.hoseCtl.get h with flowStop := none, noFlow := none, pause := none, settle := none }
            ∧ t.chan.get h = { s.chan.get h with unmetered := 0 }
            ∧ (t.tracking.get h).running = false ∧ t.pendingTag.get h = false
            ∧ (t.nozzleReader.get h).link = .off)
        ∧ (∀ c, t.receipts.get c = { s.receipts.get c with qualification := none, limit := none }
            ∧ (t.pumps.get c).runOn = none)
        ∧ t.panelReader.link = .qualifying ∧ t.panelReader.stableTimer = none
        ∧ t.out.main = PerHose.all false ∧ t.out.slow = PerHose.all false
        ∧ t.out.pump = PerComp.all false ∧ t.out.inlet = PerComp.all false
        ∧ t = { s with
            supply := t.supply, save := t.save, supervisor := t.supervisor, slots := t.slots
            hoseCtl := t.hoseCtl, chan := t.chan, tracking := t.tracking, pendingTag := t.pendingTag
            nozzleReader := t.nozzleReader, panelReader := t.panelReader, receipts := t.receipts
            pumps := t.pumps, out := t.out })
    ∧ (s.supply = .saved →
      ∃ t, exec .rideThrough s = .next t
        ∧ t.supply = .normal ∧ t.resetCause = .supplyRestore ∧ t.saveEmptied
        ∧ (∀ p, (t.ports.get p).held = 0
            ∧ (t.ports.get p).latched ||| (s.ports.get p).latched ||| (s.ports.get p).held
              = (t.ports.get p).latched)
        ∧ (∀ h, (s.slotState h).waiting = true → t.slots.get h = Slot.fresh)
        ∧ (∀ h, ∀ v, s.save.slots.get h = some v → v.slot.state.authorised = true →
            t.slots.get h = Slot.fresh
            ∧ ∀ k, s.journal.register.hoses.get h = some k → ∀ m, v.meter = some m →
              interrupted h v m (some (s.chan.get h).unmetered) t)
        ∧ (∀ h, (t.chan.get h).lastChanged = none
            ∧ (t.hoseCtl.get h).liftArmed = s.switches.nozzleIn.get h)
        ∧ (∀ c, t.pumps.get c = ⟨0, none⟩)
        ∧ (∀ c, t.receipts.get c =
            (match s.save.receipts.get c with
             | none => s.receipts.get c
             | some r =>
               r.continued (s.receipts.get c) s.now s.clock.counter ((s.gauge.get c).state == .valid)))
        ∧ t.panelReader.link = .qualifying ∧ t.panelReader.qualifyLimit = some (s.now + 1000)
        ∧ t.stock = s.stock ∧ t.clock = s.clock ∧ t.cal = s.cal ∧ t.prices = s.prices
        ∧ t.depot = s.depot ∧ t.operator = s.operator ∧ t.switches = s.switches ∧ t.now = s.now)
    ∧ ∀ (lines : PerHose LineLevels) (switches : Switches),
      ∃ t, exec (.powerOn lines switches) s = .next t
        ∧ t.supply = .normal ∧ t.resetCause = .powerOn ∧ t.now = 0 ∧ t.clock = ⟨0, false⟩
        ∧ t.switches = switches ∧ t.operator = none ∧ t.supervisor = none ∧ t.saveEmptied
        ∧ (∀ h, t.slots.get h = Slot.fresh
            ∧ (t.chan.get h).p1 = (lines.get h).p1 ∧ (t.chan.get h).p2 = (lines.get h).p2
            ∧ (t.chan.get h).lastChanged = none ∧ (t.chan.get h).bound = false
            ∧ (t.chan.get h).grossTotalizer = (s.save.totals.get h).gross
            ∧ (t.chan.get h).netTotalizer = (s.save.totals.get h).net
            ∧ (t.hoseCtl.get h).liftArmed = switches.nozzleIn.get h
            ∧ t.hoseCtl.get h = HoseControl.fresh (switches.nozzleIn.get h)
            ∧ (t.chan.get h).tempState = .substituted ∧ (t.chan.get h).unattributed = none
            ∧ (t.chan.get h).unmetered = 0 ∧ (t.chan.get h).debt = 0 ∧ (t.chan.get h).phaseErrors = 0
            ∧ t.nozzleReader.get h = ReaderState.off ∧ t.pendingTag.get h = false
            ∧ t.tracking.get h = ⟨false, 0, none⟩)
        ∧ t.panelReader = ReaderState.panelStart 0 ∧ t.logoffTimer = none ∧ t.tilt = Tilt.fresh
        ∧ (∀ c, t.gauge.get c = Gauge.fresh
            ∧ t.receipts.get c =
              (match s.save.receipts.get c with
               | none => Receipt.fresh
               | some r => r.continued Receipt.fresh 0 0 false))
        ∧ (∀ c, (t.stock.get c).book = (s.save.stock.get c).book
            ∧ ((t.stock.get c).cut = true ↔ (s.save.stock.get c).book ≤ s.cal.dead.get c)
            ∧ t.pumps.get c = ⟨0, none⟩ ∧ (t.gauge.get c).state = .absent)
        ∧ (∀ w, t.roster.entryAt w = none) ∧ t.roster.requests = []
        ∧ t.roster.quickCodes = s.roster.quickCodes ∧ t.roster.site = s.roster.site
        ∧ t.cal = { s.cal with staged := none } ∧ t.prices = s.prices ∧ t.depot = s.depot
        ∧ (∃ more, t.journal.records = s.journal.records ++ more)
        ∧ (∀ h, ∀ v, s.save.slots.get h = some v → v.slot.state.authorised = true →
            ∀ k, s.save.register.hoses.get h = some k → ∀ m, v.meter = some m → interrupted h v m none t)
        ∧ ∀ p, (t.ports.get p).mask = 0 ∧ (t.ports.get p).buffer = none
            ∧ (t.ports.get p).hasFlag p .restarted = true
end

