-- ==== Sys2Proof/Laws/Names.lean ====
section
/-! SUPPORT. Reading back the containers of Word.lean: one value per hose, compartment or port. -/

namespace Sys2Proof

variable {α : Type}

@[simp] theorem PerHose.get_set_same (x : PerHose α) (h : Hose) (v : α) : (x.set h v).get h = v := by
  cases h <;> rfl

@[simp] theorem PerHose.get_set_ne (x : PerHose α) {h k : Hose} (v : α) (hk : k ≠ h) :
    (x.set h v).get k = x.get k := by
  cases h <;> cases k <;> first | rfl | exact absurd rfl hk

@[simp] theorem PerHose.get_all (v : α) (h : Hose) : (PerHose.all v).get h = v := by cases h <;> rfl

@[simp] theorem PerHose.set_get (x : PerHose α) (h : Hose) : x.set h (x.get h) = x := by cases h <;> rfl

theorem PerHose.ext_get {x y : PerHose α} (e : ∀ h, x.get h = y.get h) : x = y := by
  cases x; cases y
  have h1 := e .h1
  have h2 := e .h2
  have h3 := e .h3
  simp only [PerHose.get] at h1 h2 h3
  simp only [h1, h2, h3]

@[simp] theorem PerComp.get_set_same (x : PerComp α) (c : Comp) (v : α) : (x.set c v).get c = v := by
  cases c <;> rfl

@[simp] theorem PerComp.get_set_ne (x : PerComp α) {c d : Comp} (v : α) (hd : d ≠ c) :
    (x.set c v).get d = x.get d := by
  cases c <;> cases d <;> first | rfl | exact absurd rfl hd

@[simp] theorem PerComp.get_all (v : α) (c : Comp) : (PerComp.all v).get c = v := by cases c <;> rfl

@[simp] theorem PerComp.set_get (x : PerComp α) (c : Comp) : x.set c (x.get c) = x := by cases c <;> rfl

theorem PerComp.ext_get {x y : PerComp α} (e : ∀ c, x.get c = y.get c) : x = y := by
  cases x; cases y
  have ha := e .a
  have hb := e .b
  simp only [PerComp.get] at ha hb
  simp only [ha, hb]

@[simp] theorem PerPort.get_set_same (x : PerPort α) (p : Port) (v : α) : (x.set p v).get p = v := by
  cases p <;> rfl

@[simp] theorem PerPort.get_set_ne (x : PerPort α) {p q : Port} (v : α) (hq : q ≠ p) :
    (x.set p v).get q = x.get q := by
  cases p <;> cases q <;> first | rfl | exact absurd rfl hq

@[simp] theorem PerPort.get_all (v : α) (p : Port) : (PerPort.all v).get p = v := by cases p <;> rfl

end Sys2Proof
end

