-- ==== Sys2Proof/Laws/State.lean ====
section
/-! SUPPORT. What each update of one block leaves of every field of State, and what it makes of its own: one
lemma per field per update, true by rfl. -/

namespace Sys2Proof.Machine

open Sys2Proof

variable (s : State)

/-! ### modChan -/

@[simp] theorem State.modChan_pending (h : Hose) (f : Channel → Channel) :
    (s.modChan h f).pending = s.pending := rfl

@[simp] theorem State.modChan_now (h : Hose) (f : Channel → Channel) :
    (s.modChan h f).now = s.now := rfl

@[simp] theorem State.modChan_chan (h : Hose) (f : Channel → Channel) :
    (s.modChan h f).chan = s.chan.set h (f (s.chan.get h)) := rfl

@[simp] theorem State.modChan_hoseCtl (h : Hose) (f : Channel → Channel) :
    (s.modChan h f).hoseCtl = s.hoseCtl := rfl

@[simp] theorem State.modChan_pumps (h : Hose) (f : Channel → Channel) :
    (s.modChan h f).pumps = s.pumps := rfl

@[simp] theorem State.modChan_nozzleReader (h : Hose) (f : Channel → Channel) :
    (s.modChan h f).nozzleReader = s.nozzleReader := rfl

@[simp] theorem State.modChan_panelReader (h : Hose) (f : Channel → Channel) :
    (s.modChan h f).panelReader = s.panelReader := rfl

@[simp] theorem State.modChan_tracking (h : Hose) (f : Channel → Channel) :
    (s.modChan h f).tracking = s.tracking := rfl

@[simp] theorem State.modChan_pendingTag (h : Hose) (f : Channel → Channel) :
    (s.modChan h f).pendingTag = s.pendingTag := rfl

@[simp] theorem State.modChan_operator (h : Hose) (f : Channel → Channel) :
    (s.modChan h f).operator = s.operator := rfl

@[simp] theorem State.modChan_logoffTimer (h : Hose) (f : Channel → Channel) :
    (s.modChan h f).logoffTimer = s.logoffTimer := rfl

@[simp] theorem State.modChan_supervisor (h : Hose) (f : Channel → Channel) :
    (s.modChan h f).supervisor = s.supervisor := rfl

@[simp] theorem State.modChan_roster (h : Hose) (f : Channel → Channel) :
    (s.modChan h f).roster = s.roster := rfl

@[simp] theorem State.modChan_clock (h : Hose) (f : Channel → Channel) :
    (s.modChan h f).clock = s.clock := rfl

@[simp] theorem State.modChan_slots (h : Hose) (f : Channel → Channel) :
    (s.modChan h f).slots = s.slots := rfl

@[simp] theorem State.modChan_prices (h : Hose) (f : Channel → Channel) :
    (s.modChan h f).prices = s.prices := rfl

@[simp] theorem State.modChan_stock (h : Hose) (f : Channel → Channel) :
    (s.modChan h f).stock = s.stock := rfl

@[simp] theorem State.modChan_gauge (h : Hose) (f : Channel → Channel) :
    (s.modChan h f).gauge = s.gauge := rfl

@[simp] theorem State.modChan_tilt (h : Hose) (f : Channel → Channel) :
    (s.modChan h f).tilt = s.tilt := rfl

@[simp] theorem State.modChan_receipts (h : Hose) (f : Channel → Channel) :
    (s.modChan h f).receipts = s.receipts := rfl

@[simp] theorem State.modChan_journal (h : Hose) (f : Channel → Channel) :
    (s.modChan h f).journal = s.journal := rfl

@[simp] theorem State.modChan_cal (h : Hose) (f : Channel → Channel) :
    (s.modChan h f).cal = s.cal := rfl

@[simp] theorem State.modChan_depot (h : Hose) (f : Channel → Channel) :
    (s.modChan h f).depot = s.depot := rfl

@[simp] theorem State.modChan_supply (h : Hose) (f : Channel → Channel) :
    (s.modChan h f).supply = s.supply := rfl

@[simp] theorem State.modChan_resetCause (h : Hose) (f : Channel → Channel) :
    (s.modChan h f).resetCause = s.resetCause := rfl

@[simp] theorem State.modChan_save (h : Hose) (f : Channel → Channel) :
    (s.modChan h f).save = s.save := rfl

@[simp] theorem State.modChan_ports (h : Hose) (f : Channel → Channel) :
    (s.modChan h f).ports = s.ports := rfl

@[simp] theorem State.modChan_switches (h : Hose) (f : Channel → Channel) :
    (s.modChan h f).switches = s.switches := rfl

@[simp] theorem State.modChan_out (h : Hose) (f : Channel → Channel) :
    (s.modChan h f).out = s.out := rfl


/-! ### modHoseCtl -/

@[simp] theorem State.modHoseCtl_pending (h : Hose) (f : HoseControl → HoseControl) :
    (s.modHoseCtl h f).pending = s.pending := rfl

@[simp] theorem State.modHoseCtl_now (h : Hose) (f : HoseControl → HoseControl) :
    (s.modHoseCtl h f).now = s.now := rfl

@[simp] theorem State.modHoseCtl_chan (h : Hose) (f : HoseControl → HoseControl) :
    (s.modHoseCtl h f).chan = s.chan := rfl

@[simp] theorem State.modHoseCtl_hoseCtl (h : Hose) (f : HoseControl → HoseControl) :
    (s.modHoseCtl h f).hoseCtl = s.hoseCtl.set h (f (s.hoseCtl.get h)) := rfl

@[simp] theorem State.modHoseCtl_pumps (h : Hose) (f : HoseControl → HoseControl) :
    (s.modHoseCtl h f).pumps = s.pumps := rfl

@[simp] theorem State.modHoseCtl_nozzleReader (h : Hose) (f : HoseControl → HoseControl) :
    (s.modHoseCtl h f).nozzleReader = s.nozzleReader := rfl

@[simp] theorem State.modHoseCtl_panelReader (h : Hose) (f : HoseControl → HoseControl) :
    (s.modHoseCtl h f).panelReader = s.panelReader := rfl

@[simp] theorem State.modHoseCtl_tracking (h : Hose) (f : HoseControl → HoseControl) :
    (s.modHoseCtl h f).tracking = s.tracking := rfl

@[simp] theorem State.modHoseCtl_pendingTag (h : Hose) (f : HoseControl → HoseControl) :
    (s.modHoseCtl h f).pendingTag = s.pendingTag := rfl

@[simp] theorem State.modHoseCtl_operator (h : Hose) (f : HoseControl → HoseControl) :
    (s.modHoseCtl h f).operator = s.operator := rfl

@[simp] theorem State.modHoseCtl_logoffTimer (h : Hose) (f : HoseControl → HoseControl) :
    (s.modHoseCtl h f).logoffTimer = s.logoffTimer := rfl

@[simp] theorem State.modHoseCtl_supervisor (h : Hose) (f : HoseControl → HoseControl) :
    (s.modHoseCtl h f).supervisor = s.supervisor := rfl

@[simp] theorem State.modHoseCtl_roster (h : Hose) (f : HoseControl → HoseControl) :
    (s.modHoseCtl h f).roster = s.roster := rfl

@[simp] theorem State.modHoseCtl_clock (h : Hose) (f : HoseControl → HoseControl) :
    (s.modHoseCtl h f).clock = s.clock := rfl

@[simp] theorem State.modHoseCtl_slots (h : Hose) (f : HoseControl → HoseControl) :
    (s.modHoseCtl h f).slots = s.slots := rfl

@[simp] theorem State.modHoseCtl_prices (h : Hose) (f : HoseControl → HoseControl) :
    (s.modHoseCtl h f).prices = s.prices := rfl

@[simp] theorem State.modHoseCtl_stock (h : Hose) (f : HoseControl → HoseControl) :
    (s.modHoseCtl h f).stock = s.stock := rfl

@[simp] theorem State.modHoseCtl_gauge (h : Hose) (f : HoseControl → HoseControl) :
    (s.modHoseCtl h f).gauge = s.gauge := rfl

@[simp] theorem State.modHoseCtl_tilt (h : Hose) (f : HoseControl → HoseControl) :
    (s.modHoseCtl h f).tilt = s.tilt := rfl

@[simp] theorem State.modHoseCtl_receipts (h : Hose) (f : HoseControl → HoseControl) :
    (s.modHoseCtl h f).receipts = s.receipts := rfl

@[simp] theorem State.modHoseCtl_journal (h : Hose) (f : HoseControl → HoseControl) :
    (s.modHoseCtl h f).journal = s.journal := rfl

@[simp] theorem State.modHoseCtl_cal (h : Hose) (f : HoseControl → HoseControl) :
    (s.modHoseCtl h f).cal = s.cal := rfl

@[simp] theorem State.modHoseCtl_depot (h : Hose) (f : HoseControl → HoseControl) :
    (s.modHoseCtl h f).depot = s.depot := rfl

@[simp] theorem State.modHoseCtl_supply (h : Hose) (f : HoseControl → HoseControl) :
    (s.modHoseCtl h f).supply = s.supply := rfl

@[simp] theorem State.modHoseCtl_resetCause (h : Hose) (f : HoseControl → HoseControl) :
    (s.modHoseCtl h f).resetCause = s.resetCause := rfl

@[simp] theorem State.modHoseCtl_save (h : Hose) (f : HoseControl → HoseControl) :
    (s.modHoseCtl h f).save = s.save := rfl

@[simp] theorem State.modHoseCtl_ports (h : Hose) (f : HoseControl → HoseControl) :
    (s.modHoseCtl h f).ports = s.ports := rfl

@[simp] theorem State.modHoseCtl_switches (h : Hose) (f : HoseControl → HoseControl) :
    (s.modHoseCtl h f).switches = s.switches := rfl

@[simp] theorem State.modHoseCtl_out (h : Hose) (f : HoseControl → HoseControl) :
    (s.modHoseCtl h f).out = s.out := rfl


/-! ### modPump -/

@[simp] theorem State.modPump_pending (c : Comp) (f : PumpControl → PumpControl) :
    (s.modPump c f).pending = s.pending := rfl

@[simp] theorem State.modPump_now (c : Comp) (f : PumpControl → PumpControl) :
    (s.modPump c f).now = s.now := rfl

@[simp] theorem State.modPump_chan (c : Comp) (f : PumpControl → PumpControl) :
    (s.modPump c f).chan = s.chan := rfl

@[simp] theorem State.modPump_hoseCtl (c : Comp) (f : PumpControl → PumpControl) :
    (s.modPump c f).hoseCtl = s.hoseCtl := rfl

@[simp] theorem State.modPump_pumps (c : Comp) (f : PumpControl → PumpControl) :
    (s.modPump c f).pumps = s.pumps.set c (f (s.pumps.get c)) := rfl

@[simp] theorem State.modPump_nozzleReader (c : Comp) (f : PumpControl → PumpControl) :
    (s.modPump c f).nozzleReader = s.nozzleReader := rfl

@[simp] theorem State.modPump_panelReader (c : Comp) (f : PumpControl → PumpControl) :
    (s.modPump c f).panelReader = s.panelReader := rfl

@[simp] theorem State.modPump_tracking (c : Comp) (f : PumpControl → PumpControl) :
    (s.modPump c f).tracking = s.tracking := rfl

@[simp] theorem State.modPump_pendingTag (c : Comp) (f : PumpControl → PumpControl) :
    (s.modPump c f).pendingTag = s.pendingTag := rfl

@[simp] theorem State.modPump_operator (c : Comp) (f : PumpControl → PumpControl) :
    (s.modPump c f).operator = s.operator := rfl

@[simp] theorem State.modPump_logoffTimer (c : Comp) (f : PumpControl → PumpControl) :
    (s.modPump c f).logoffTimer = s.logoffTimer := rfl

@[simp] theorem State.modPump_supervisor (c : Comp) (f : PumpControl → PumpControl) :
    (s.modPump c f).supervisor = s.supervisor := rfl

@[simp] theorem State.modPump_roster (c : Comp) (f : PumpControl → PumpControl) :
    (s.modPump c f).roster = s.roster := rfl

@[simp] theorem State.modPump_clock (c : Comp) (f : PumpControl → PumpControl) :
    (s.modPump c f).clock = s.clock := rfl

@[simp] theorem State.modPump_slots (c : Comp) (f : PumpControl → PumpControl) :
    (s.modPump c f).slots = s.slots := rfl

@[simp] theorem State.modPump_prices (c : Comp) (f : PumpControl → PumpControl) :
    (s.modPump c f).prices = s.prices := rfl

@[simp] theorem State.modPump_stock (c : Comp) (f : PumpControl → PumpControl) :
    (s.modPump c f).stock = s.stock := rfl

@[simp] theorem State.modPump_gauge (c : Comp) (f : PumpControl → PumpControl) :
    (s.modPump c f).gauge = s.gauge := rfl

@[simp] theorem State.modPump_tilt (c : Comp) (f : PumpControl → PumpControl) :
    (s.modPump c f).tilt = s.tilt := rfl

@[simp] theorem State.modPump_receipts (c : Comp) (f : PumpControl → PumpControl) :
    (s.modPump c f).receipts = s.receipts := rfl

@[simp] theorem State.modPump_journal (c : Comp) (f : PumpControl → PumpControl) :
    (s.modPump c f).journal = s.journal := rfl

@[simp] theorem State.modPump_cal (c : Comp) (f : PumpControl → PumpControl) :
    (s.modPump c f).cal = s.cal := rfl

@[simp] theorem State.modPump_depot (c : Comp) (f : PumpControl → PumpControl) :
    (s.modPump c f).depot = s.depot := rfl

@[simp] theorem State.modPump_supply (c : Comp) (f : PumpControl → PumpControl) :
    (s.modPump c f).supply = s.supply := rfl

@[simp] theorem State.modPump_resetCause (c : Comp) (f : PumpControl → PumpControl) :
    (s.modPump c f).resetCause = s.resetCause := rfl

@[simp] theorem State.modPump_save (c : Comp) (f : PumpControl → PumpControl) :
    (s.modPump c f).save = s.save := rfl

@[simp] theorem State.modPump_ports (c : Comp) (f : PumpControl → PumpControl) :
    (s.modPump c f).ports = s.ports := rfl

@[simp] theorem State.modPump_switches (c : Comp) (f : PumpControl → PumpControl) :
    (s.modPump c f).switches = s.switches := rfl

@[simp] theorem State.modPump_out (c : Comp) (f : PumpControl → PumpControl) :
    (s.modPump c f).out = s.out := rfl


/-! ### modTracking -/

@[simp] theorem State.modTracking_pending (h : Hose) (f : Tracking → Tracking) :
    (s.modTracking h f).pending = s.pending := rfl

@[simp] theorem State.modTracking_now (h : Hose) (f : Tracking → Tracking) :
    (s.modTracking h f).now = s.now := rfl

@[simp] theorem State.modTracking_chan (h : Hose) (f : Tracking → Tracking) :
    (s.modTracking h f).chan = s.chan := rfl

@[simp] theorem State.modTracking_hoseCtl (h : Hose) (f : Tracking → Tracking) :
    (s.modTracking h f).hoseCtl = s.hoseCtl := rfl

@[simp] theorem State.modTracking_pumps (h : Hose) (f : Tracking → Tracking) :
    (s.modTracking h f).pumps = s.pumps := rfl

@[simp] theorem State.modTracking_nozzleReader (h : Hose) (f : Tracking → Tracking) :
    (s.modTracking h f).nozzleReader = s.nozzleReader := rfl

@[simp] theorem State.modTracking_panelReader (h : Hose) (f : Tracking → Tracking) :
    (s.modTracking h f).panelReader = s.panelReader := rfl

@[simp] theorem State.modTracking_tracking (h : Hose) (f : Tracking → Tracking) :
    (s.modTracking h f).tracking = s.tracking.set h (f (s.tracking.get h)) := rfl

@[simp] theorem State.modTracking_pendingTag (h : Hose) (f : Tracking → Tracking) :
    (s.modTracking h f).pendingTag = s.pendingTag := rfl

@[simp] theorem State.modTracking_operator (h : Hose) (f : Tracking → Tracking) :
    (s.modTracking h f).operator = s.operator := rfl

@[simp] theorem State.modTracking_logoffTimer (h : Hose) (f : Tracking → Tracking) :
    (s.modTracking h f).logoffTimer = s.logoffTimer := rfl

@[simp] theorem State.modTracking_supervisor (h : Hose) (f : Tracking → Tracking) :
    (s.modTracking h f).supervisor = s.supervisor := rfl

@[simp] theorem State.modTracking_roster (h : Hose) (f : Tracking → Tracking) :
    (s.modTracking h f).roster = s.roster := rfl

@[simp] theorem State.modTracking_clock (h : Hose) (f : Tracking → Tracking) :
    (s.modTracking h f).clock = s.clock := rfl

@[simp] theorem State.modTracking_slots (h : Hose) (f : Tracking → Tracking) :
    (s.modTracking h f).slots = s.slots := rfl

@[simp] theorem State.modTracking_prices (h : Hose) (f : Tracking → Tracking) :
    (s.modTracking h f).prices = s.prices := rfl

@[simp] theorem State.modTracking_stock (h : Hose) (f : Tracking → Tracking) :
    (s.modTracking h f).stock = s.stock := rfl

@[simp] theorem State.modTracking_gauge (h : Hose) (f : Tracking → Tracking) :
    (s.modTracking h f).gauge = s.gauge := rfl

@[simp] theorem State.modTracking_tilt (h : Hose) (f : Tracking → Tracking) :
    (s.modTracking h f).tilt = s.tilt := rfl

@[simp] theorem State.modTracking_receipts (h : Hose) (f : Tracking → Tracking) :
    (s.modTracking h f).receipts = s.receipts := rfl

@[simp] theorem State.modTracking_journal (h : Hose) (f : Tracking → Tracking) :
    (s.modTracking h f).journal = s.journal := rfl

@[simp] theorem State.modTracking_cal (h : Hose) (f : Tracking → Tracking) :
    (s.modTracking h f).cal = s.cal := rfl

@[simp] theorem State.modTracking_depot (h : Hose) (f : Tracking → Tracking) :
    (s.modTracking h f).depot = s.depot := rfl

@[simp] theorem State.modTracking_supply (h : Hose) (f : Tracking → Tracking) :
    (s.modTracking h f).supply = s.supply := rfl

@[simp] theorem State.modTracking_resetCause (h : Hose) (f : Tracking → Tracking) :
    (s.modTracking h f).resetCause = s.resetCause := rfl

@[simp] theorem State.modTracking_save (h : Hose) (f : Tracking → Tracking) :
    (s.modTracking h f).save = s.save := rfl

@[simp] theorem State.modTracking_ports (h : Hose) (f : Tracking → Tracking) :
    (s.modTracking h f).ports = s.ports := rfl

@[simp] theorem State.modTracking_switches (h : Hose) (f : Tracking → Tracking) :
    (s.modTracking h f).switches = s.switches := rfl

@[simp] theorem State.modTracking_out (h : Hose) (f : Tracking → Tracking) :
    (s.modTracking h f).out = s.out := rfl


/-! ### modSlot -/

@[simp] theorem State.modSlot_pending (h : Hose) (f : Slot → Slot) :
    (s.modSlot h f).pending = s.pending := rfl

@[simp] theorem State.modSlot_now (h : Hose) (f : Slot → Slot) :
    (s.modSlot h f).now = s.now := rfl

@[simp] theorem State.modSlot_chan (h : Hose) (f : Slot → Slot) :
    (s.modSlot h f).chan = s.chan := rfl

@[simp] theorem State.modSlot_hoseCtl (h : Hose) (f : Slot → Slot) :
    (s.modSlot h f).hoseCtl = s.hoseCtl := rfl

@[simp] theorem State.modSlot_pumps (h : Hose) (f : Slot → Slot) :
    (s.modSlot h f).pumps = s.pumps := rfl

@[simp] theorem State.modSlot_nozzleReader (h : Hose) (f : Slot → Slot) :
    (s.modSlot h f).nozzleReader = s.nozzleReader := rfl

@[simp] theorem State.modSlot_panelReader (h : Hose) (f : Slot → Slot) :
    (s.modSlot h f).panelReader = s.panelReader := rfl

@[simp] theorem State.modSlot_tracking (h : Hose) (f : Slot → Slot) :
    (s.modSlot h f).tracking = s.tracking := rfl

@[simp] theorem State.modSlot_pendingTag (h : Hose) (f : Slot → Slot) :
    (s.modSlot h f).pendingTag = s.pendingTag := rfl

@[simp] theorem State.modSlot_operator (h : Hose) (f : Slot → Slot) :
    (s.modSlot h f).operator = s.operator := rfl

@[simp] theorem State.modSlot_logoffTimer (h : Hose) (f : Slot → Slot) :
    (s.modSlot h f).logoffTimer = s.logoffTimer := rfl

@[simp] theorem State.modSlot_supervisor (h : Hose) (f : Slot → Slot) :
    (s.modSlot h f).supervisor = s.supervisor := rfl

@[simp] theorem State.modSlot_roster (h : Hose) (f : Slot → Slot) :
    (s.modSlot h f).roster = s.roster := rfl

@[simp] theorem State.modSlot_clock (h : Hose) (f : Slot → Slot) :
    (s.modSlot h f).clock = s.clock := rfl

@[simp] theorem State.modSlot_slots (h : Hose) (f : Slot → Slot) :
    (s.modSlot h f).slots = s.slots.set h (f (s.slots.get h)) := rfl

@[simp] theorem State.modSlot_prices (h : Hose) (f : Slot → Slot) :
    (s.modSlot h f).prices = s.prices := rfl

@[simp] theorem State.modSlot_stock (h : Hose) (f : Slot → Slot) :
    (s.modSlot h f).stock = s.stock := rfl

@[simp] theorem State.modSlot_gauge (h : Hose) (f : Slot → Slot) :
    (s.modSlot h f).gauge = s.gauge := rfl

@[simp] theorem State.modSlot_tilt (h : Hose) (f : Slot → Slot) :
    (s.modSlot h f).tilt = s.tilt := rfl

@[simp] theorem State.modSlot_receipts (h : Hose) (f : Slot → Slot) :
    (s.modSlot h f).receipts = s.receipts := rfl

@[simp] theorem State.modSlot_journal (h : Hose) (f : Slot → Slot) :
    (s.modSlot h f).journal = s.journal := rfl

@[simp] theorem State.modSlot_cal (h : Hose) (f : Slot → Slot) :
    (s.modSlot h f).cal = s.cal := rfl

@[simp] theorem State.modSlot_depot (h : Hose) (f : Slot → Slot) :
    (s.modSlot h f).depot = s.depot := rfl

@[simp] theorem State.modSlot_supply (h : Hose) (f : Slot → Slot) :
    (s.modSlot h f).supply = s.supply := rfl

@[simp] theorem State.modSlot_resetCause (h : Hose) (f : Slot → Slot) :
    (s.modSlot h f).resetCause = s.resetCause := rfl

@[simp] theorem State.modSlot_save (h : Hose) (f : Slot → Slot) :
    (s.modSlot h f).save = s.save := rfl

@[simp] theorem State.modSlot_ports (h : Hose) (f : Slot → Slot) :
    (s.modSlot h f).ports = s.ports := rfl

@[simp] theorem State.modSlot_switches (h : Hose) (f : Slot → Slot) :
    (s.modSlot h f).switches = s.switches := rfl

@[simp] theorem State.modSlot_out (h : Hose) (f : Slot → Slot) :
    (s.modSlot h f).out = s.out := rfl


/-! ### modStock -/

@[simp] theorem State.modStock_pending (c : Comp) (f : Stock → Stock) :
    (s.modStock c f).pending = s.pending := rfl

@[simp] theorem State.modStock_now (c : Comp) (f : Stock → Stock) :
    (s.modStock c f).now = s.now := rfl

@[simp] theorem State.modStock_chan (c : Comp) (f : Stock → Stock) :
    (s.modStock c f).chan = s.chan := rfl

@[simp] theorem State.modStock_hoseCtl (c : Comp) (f : Stock → Stock) :
    (s.modStock c f).hoseCtl = s.hoseCtl := rfl

@[simp] theorem State.modStock_pumps (c : Comp) (f : Stock → Stock) :
    (s.modStock c f).pumps = s.pumps := rfl

@[simp] theorem State.modStock_nozzleReader (c : Comp) (f : Stock → Stock) :
    (s.modStock c f).nozzleReader = s.nozzleReader := rfl

@[simp] theorem State.modStock_panelReader (c : Comp) (f : Stock → Stock) :
    (s.modStock c f).panelReader = s.panelReader := rfl

@[simp] theorem State.modStock_tracking (c : Comp) (f : Stock → Stock) :
    (s.modStock c f).tracking = s.tracking := rfl

@[simp] theorem State.modStock_pendingTag (c : Comp) (f : Stock → Stock) :
    (s.modStock c f).pendingTag = s.pendingTag := rfl

@[simp] theorem State.modStock_operator (c : Comp) (f : Stock → Stock) :
    (s.modStock c f).operator = s.operator := rfl

@[simp] theorem State.modStock_logoffTimer (c : Comp) (f : Stock → Stock) :
    (s.modStock c f).logoffTimer = s.logoffTimer := rfl

@[simp] theorem State.modStock_supervisor (c : Comp) (f : Stock → Stock) :
    (s.modStock c f).supervisor = s.supervisor := rfl

@[simp] theorem State.modStock_roster (c : Comp) (f : Stock → Stock) :
    (s.modStock c f).roster = s.roster := rfl

@[simp] theorem State.modStock_clock (c : Comp) (f : Stock → Stock) :
    (s.modStock c f).clock = s.clock := rfl

@[simp] theorem State.modStock_slots (c : Comp) (f : Stock → Stock) :
    (s.modStock c f).slots = s.slots := rfl

@[simp] theorem State.modStock_prices (c : Comp) (f : Stock → Stock) :
    (s.modStock c f).prices = s.prices := rfl

@[simp] theorem State.modStock_stock (c : Comp) (f : Stock → Stock) :
    (s.modStock c f).stock = s.stock.set c (f (s.stock.get c)) := rfl

@[simp] theorem State.modStock_gauge (c : Comp) (f : Stock → Stock) :
    (s.modStock c f).gauge = s.gauge := rfl

@[simp] theorem State.modStock_tilt (c : Comp) (f : Stock → Stock) :
    (s.modStock c f).tilt = s.tilt := rfl

@[simp] theorem State.modStock_receipts (c : Comp) (f : Stock → Stock) :
    (s.modStock c f).receipts = s.receipts := rfl

@[simp] theorem State.modStock_journal (c : Comp) (f : Stock → Stock) :
    (s.modStock c f).journal = s.journal := rfl

@[simp] theorem State.modStock_cal (c : Comp) (f : Stock → Stock) :
    (s.modStock c f).cal = s.cal := rfl

@[simp] theorem State.modStock_depot (c : Comp) (f : Stock → Stock) :
    (s.modStock c f).depot = s.depot := rfl

@[simp] theorem State.modStock_supply (c : Comp) (f : Stock → Stock) :
    (s.modStock c f).supply = s.supply := rfl

@[simp] theorem State.modStock_resetCause (c : Comp) (f : Stock → Stock) :
    (s.modStock c f).resetCause = s.resetCause := rfl

@[simp] theorem State.modStock_save (c : Comp) (f : Stock → Stock) :
    (s.modStock c f).save = s.save := rfl

@[simp] theorem State.modStock_ports (c : Comp) (f : Stock → Stock) :
    (s.modStock c f).ports = s.ports := rfl

@[simp] theorem State.modStock_switches (c : Comp) (f : Stock → Stock) :
    (s.modStock c f).switches = s.switches := rfl

@[simp] theorem State.modStock_out (c : Comp) (f : Stock → Stock) :
    (s.modStock c f).out = s.out := rfl


/-! ### modGauge -/

@[simp] theorem State.modGauge_pending (c : Comp) (f : Gauge → Gauge) :
    (s.modGauge c f).pending = s.pending := rfl

@[simp] theorem State.modGauge_now (c : Comp) (f : Gauge → Gauge) :
    (s.modGauge c f).now = s.now := rfl

@[simp] theorem State.modGauge_chan (c : Comp) (f : Gauge → Gauge) :
    (s.modGauge c f).chan = s.chan := rfl

@[simp] theorem State.modGauge_hoseCtl (c : Comp) (f : Gauge → Gauge) :
    (s.modGauge c f).hoseCtl = s.hoseCtl := rfl

@[simp] theorem State.modGauge_pumps (c : Comp) (f : Gauge → Gauge) :
    (s.modGauge c f).pumps = s.pumps := rfl

@[simp] theorem State.modGauge_nozzleReader (c : Comp) (f : Gauge → Gauge) :
    (s.modGauge c f).nozzleReader = s.nozzleReader := rfl

@[simp] theorem State.modGauge_panelReader (c : Comp) (f : Gauge → Gauge) :
    (s.modGauge c f).panelReader = s.panelReader := rfl

@[simp] theorem State.modGauge_tracking (c : Comp) (f : Gauge → Gauge) :
    (s.modGauge c f).tracking = s.tracking := rfl

@[simp] theorem State.modGauge_pendingTag (c : Comp) (f : Gauge → Gauge) :
    (s.modGauge c f).pendingTag = s.pendingTag := rfl

@[simp] theorem State.modGauge_operator (c : Comp) (f : Gauge → Gauge) :
    (s.modGauge c f).operator = s.operator := rfl

@[simp] theorem State.modGauge_logoffTimer (c : Comp) (f : Gauge → Gauge) :
    (s.modGauge c f).logoffTimer = s.logoffTimer := rfl

@[simp] theorem State.modGauge_supervisor (c : Comp) (f : Gauge → Gauge) :
    (s.modGauge c f).supervisor = s.supervisor := rfl

@[simp] theorem State.modGauge_roster (c : Comp) (f : Gauge → Gauge) :
    (s.modGauge c f).roster = s.roster := rfl

@[simp] theorem State.modGauge_clock (c : Comp) (f : Gauge → Gauge) :
    (s.modGauge c f).clock = s.clock := rfl

@[simp] theorem State.modGauge_slots (c : Comp) (f : Gauge → Gauge) :
    (s.modGauge c f).slots = s.slots := rfl

@[simp] theorem State.modGauge_prices (c : Comp) (f : Gauge → Gauge) :
    (s.modGauge c f).prices = s.prices := rfl

@[simp] theorem State.modGauge_stock (c : Comp) (f : Gauge → Gauge) :
    (s.modGauge c f).stock = s.stock := rfl

@[simp] theorem State.modGauge_gauge (c : Comp) (f : Gauge → Gauge) :
    (s.modGauge c f).gauge = s.gauge.set c (f (s.gauge.get c)) := rfl

@[simp] theorem State.modGauge_tilt (c : Comp) (f : Gauge → Gauge) :
    (s.modGauge c f).tilt = s.tilt := rfl

@[simp] theorem State.modGauge_receipts (c : Comp) (f : Gauge → Gauge) :
    (s.modGauge c f).receipts = s.receipts := rfl

@[simp] theorem State.modGauge_journal (c : Comp) (f : Gauge → Gauge) :
    (s.modGauge c f).journal = s.journal := rfl

@[simp] theorem State.modGauge_cal (c : Comp) (f : Gauge → Gauge) :
    (s.modGauge c f).cal = s.cal := rfl

@[simp] theorem State.modGauge_depot (c : Comp) (f : Gauge → Gauge) :
    (s.modGauge c f).depot = s.depot := rfl

@[simp] theorem State.modGauge_supply (c : Comp) (f : Gauge → Gauge) :
    (s.modGauge c f).supply = s.supply := rfl

@[simp] theorem State.modGauge_resetCause (c : Comp) (f : Gauge → Gauge) :
    (s.modGauge c f).resetCause = s.resetCause := rfl

@[simp] theorem State.modGauge_save (c : Comp) (f : Gauge → Gauge) :
    (s.modGauge c f).save = s.save := rfl

@[simp] theorem State.modGauge_ports (c : Comp) (f : Gauge → Gauge) :
    (s.modGauge c f).ports = s.ports := rfl

@[simp] theorem State.modGauge_switches (c : Comp) (f : Gauge → Gauge) :
    (s.modGauge c f).switches = s.switches := rfl

@[simp] theorem State.modGauge_out (c : Comp) (f : Gauge → Gauge) :
    (s.modGauge c f).out = s.out := rfl


/-! ### modReceipt -/

@[simp] theorem State.modReceipt_pending (c : Comp) (f : Receipt → Receipt) :
    (s.modReceipt c f).pending = s.pending := rfl

@[simp] theorem State.modReceipt_now (c : Comp) (f : Receipt → Receipt) :
    (s.modReceipt c f).now = s.now := rfl

@[simp] theorem State.modReceipt_chan (c : Comp) (f : Receipt → Receipt) :
    (s.modReceipt c f).chan = s.chan := rfl

@[simp] theorem State.modReceipt_hoseCtl (c : Comp) (f : Receipt → Receipt) :
    (s.modReceipt c f).hoseCtl = s.hoseCtl := rfl

@[simp] theorem State.modReceipt_pumps (c : Comp) (f : Receipt → Receipt) :
    (s.modReceipt c f).pumps = s.pumps := rfl

@[simp] theorem State.modReceipt_nozzleReader (c : Comp) (f : Receipt → Receipt) :
    (s.modReceipt c f).nozzleReader = s.nozzleReader := rfl

@[simp] theorem State.modReceipt_panelReader (c : Comp) (f : Receipt → Receipt) :
    (s.modReceipt c f).panelReader = s.panelReader := rfl

@[simp] theorem State.modReceipt_tracking (c : Comp) (f : Receipt → Receipt) :
    (s.modReceipt c f).tracking = s.tracking := rfl

@[simp] theorem State.modReceipt_pendingTag (c : Comp) (f : Receipt → Receipt) :
    (s.modReceipt c f).pendingTag = s.pendingTag := rfl

@[simp] theorem State.modReceipt_operator (c : Comp) (f : Receipt → Receipt) :
    (s.modReceipt c f).operator = s.operator := rfl

@[simp] theorem State.modReceipt_logoffTimer (c : Comp) (f : Receipt → Receipt) :
    (s.modReceipt c f).logoffTimer = s.logoffTimer := rfl

@[simp] theorem State.modReceipt_supervisor (c : Comp) (f : Receipt → Receipt) :
    (s.modReceipt c f).supervisor = s.supervisor := rfl

@[simp] theorem State.modReceipt_roster (c : Comp) (f : Receipt → Receipt) :
    (s.modReceipt c f).roster = s.roster := rfl

@[simp] theorem State.modReceipt_clock (c : Comp) (f : Receipt → Receipt) :
    (s.modReceipt c f).clock = s.clock := rfl

@[simp] theorem State.modReceipt_slots (c : Comp) (f : Receipt → Receipt) :
    (s.modReceipt c f).slots = s.slots := rfl

@[simp] theorem State.modReceipt_prices (c : Comp) (f : Receipt → Receipt) :
    (s.modReceipt c f).prices = s.prices := rfl

@[simp] theorem State.modReceipt_stock (c : Comp) (f : Receipt → Receipt) :
    (s.modReceipt c f).stock = s.stock := rfl

@[simp] theorem State.modReceipt_gauge (c : Comp) (f : Receipt → Receipt) :
    (s.modReceipt c f).gauge = s.gauge := rfl

@[simp] theorem State.modReceipt_tilt (c : Comp) (f : Receipt → Receipt) :
    (s.modReceipt c f).tilt = s.tilt := rfl

@[simp] theorem State.modReceipt_receipts (c : Comp) (f : Receipt → Receipt) :
    (s.modReceipt c f).receipts = s.receipts.set c (f (s.receipts.get c)) := rfl

@[simp] theorem State.modReceipt_journal (c : Comp) (f : Receipt → Receipt) :
    (s.modReceipt c f).journal = s.journal := rfl

@[simp] theorem State.modReceipt_cal (c : Comp) (f : Receipt → Receipt) :
    (s.modReceipt c f).cal = s.cal := rfl

@[simp] theorem State.modReceipt_depot (c : Comp) (f : Receipt → Receipt) :
    (s.modReceipt c f).depot = s.depot := rfl

@[simp] theorem State.modReceipt_supply (c : Comp) (f : Receipt → Receipt) :
    (s.modReceipt c f).supply = s.supply := rfl

@[simp] theorem State.modReceipt_resetCause (c : Comp) (f : Receipt → Receipt) :
    (s.modReceipt c f).resetCause = s.resetCause := rfl

@[simp] theorem State.modReceipt_save (c : Comp) (f : Receipt → Receipt) :
    (s.modReceipt c f).save = s.save := rfl

@[simp] theorem State.modReceipt_ports (c : Comp) (f : Receipt → Receipt) :
    (s.modReceipt c f).ports = s.ports := rfl

@[simp] theorem State.modReceipt_switches (c : Comp) (f : Receipt → Receipt) :
    (s.modReceipt c f).switches = s.switches := rfl

@[simp] theorem State.modReceipt_out (c : Comp) (f : Receipt → Receipt) :
    (s.modReceipt c f).out = s.out := rfl


/-! ### modPort -/

@[simp] theorem State.modPort_pending (p : Port) (f : PortState → PortState) :
    (s.modPort p f).pending = s.pending := rfl

@[simp] theorem State.modPort_now (p : Port) (f : PortState → PortState) :
    (s.modPort p f).now = s.now := rfl

@[simp] theorem State.modPort_chan (p : Port) (f : PortState → PortState) :
    (s.modPort p f).chan = s.chan := rfl

@[simp] theorem State.modPort_hoseCtl (p : Port) (f : PortState → PortState) :
    (s.modPort p f).hoseCtl = s.hoseCtl := rfl

@[simp] theorem State.modPort_pumps (p : Port) (f : PortState → PortState) :
    (s.modPort p f).pumps = s.pumps := rfl

@[simp] theorem State.modPort_nozzleReader (p : Port) (f : PortState → PortState) :
    (s.modPort p f).nozzleReader = s.nozzleReader := rfl

@[simp] theorem State.modPort_panelReader (p : Port) (f : PortState → PortState) :
    (s.modPort p f).panelReader = s.panelReader := rfl

@[simp] theorem State.modPort_tracking (p : Port) (f : PortState → PortState) :
    (s.modPort p f).tracking = s.tracking := rfl

@[simp] theorem State.modPort_pendingTag (p : Port) (f : PortState → PortState) :
    (s.modPort p f).pendingTag = s.pendingTag := rfl

@[simp] theorem State.modPort_operator (p : Port) (f : PortState → PortState) :
    (s.modPort p f).operator = s.operator := rfl

@[simp] theorem State.modPort_logoffTimer (p : Port) (f : PortState → PortState) :
    (s.modPort p f).logoffTimer = s.logoffTimer := rfl

@[simp] theorem State.modPort_supervisor (p : Port) (f : PortState → PortState) :
    (s.modPort p f).supervisor = s.supervisor := rfl

@[simp] theorem State.modPort_roster (p : Port) (f : PortState → PortState) :
    (s.modPort p f).roster = s.roster := rfl

@[simp] theorem State.modPort_clock (p : Port) (f : PortState → PortState) :
    (s.modPort p f).clock = s.clock := rfl

@[simp] theorem State.modPort_slots (p : Port) (f : PortState → PortState) :
    (s.modPort p f).slots = s.slots := rfl

@[simp] theorem State.modPort_prices (p : Port) (f : PortState → PortState) :
    (s.modPort p f).prices = s.prices := rfl

@[simp] theorem State.modPort_stock (p : Port) (f : PortState → PortState) :
    (s.modPort p f).stock = s.stock := rfl

@[simp] theorem State.modPort_gauge (p : Port) (f : PortState → PortState) :
    (s.modPort p f).gauge = s.gauge := rfl

@[simp] theorem State.modPort_tilt (p : Port) (f : PortState → PortState) :
    (s.modPort p f).tilt = s.tilt := rfl

@[simp] theorem State.modPort_receipts (p : Port) (f : PortState → PortState) :
    (s.modPort p f).receipts = s.receipts := rfl

@[simp] theorem State.modPort_journal (p : Port) (f : PortState → PortState) :
    (s.modPort p f).journal = s.journal := rfl

@[simp] theorem State.modPort_cal (p : Port) (f : PortState → PortState) :
    (s.modPort p f).cal = s.cal := rfl

@[simp] theorem State.modPort_depot (p : Port) (f : PortState → PortState) :
    (s.modPort p f).depot = s.depot := rfl

@[simp] theorem State.modPort_supply (p : Port) (f : PortState → PortState) :
    (s.modPort p f).supply = s.supply := rfl

@[simp] theorem State.modPort_resetCause (p : Port) (f : PortState → PortState) :
    (s.modPort p f).resetCause = s.resetCause := rfl

@[simp] theorem State.modPort_save (p : Port) (f : PortState → PortState) :
    (s.modPort p f).save = s.save := rfl

@[simp] theorem State.modPort_ports (p : Port) (f : PortState → PortState) :
    (s.modPort p f).ports = s.ports.set p (f (s.ports.get p)) := rfl

@[simp] theorem State.modPort_switches (p : Port) (f : PortState → PortState) :
    (s.modPort p f).switches = s.switches := rfl

@[simp] theorem State.modPort_out (p : Port) (f : PortState → PortState) :
    (s.modPort p f).out = s.out := rfl


/-! ### modRoster -/

@[simp] theorem State.modRoster_pending (f : Roster → Roster) :
    (s.modRoster f).pending = s.pending := rfl

@[simp] theorem State.modRoster_now (f : Roster → Roster) :
    (s.modRoster f).now = s.now := rfl

@[simp] theorem State.modRoster_chan (f : Roster → Roster) :
    (s.modRoster f).chan = s.chan := rfl

@[simp] theorem State.modRoster_hoseCtl (f : Roster → Roster) :
    (s.modRoster f).hoseCtl = s.hoseCtl := rfl

@[simp] theorem State.modRoster_pumps (f : Roster → Roster) :
    (s.modRoster f).pumps = s.pumps := rfl

@[simp] theorem State.modRoster_nozzleReader (f : Roster → Roster) :
    (s.modRoster f).nozzleReader = s.nozzleReader := rfl

@[simp] theorem State.modRoster_panelReader (f : Roster → Roster) :
    (s.modRoster f).panelReader = s.panelReader := rfl

@[simp] theorem State.modRoster_tracking (f : Roster → Roster) :
    (s.modRoster f).tracking = s.tracking := rfl

@[simp] theorem State.modRoster_pendingTag (f : Roster → Roster) :
    (s.modRoster f).pendingTag = s.pendingTag := rfl

@[simp] theorem State.modRoster_operator (f : Roster → Roster) :
    (s.modRoster f).operator = s.operator := rfl

@[simp] theorem State.modRoster_logoffTimer (f : Roster → Roster) :
    (s.modRoster f).logoffTimer = s.logoffTimer := rfl

@[simp] theorem State.modRoster_supervisor (f : Roster → Roster) :
    (s.modRoster f).supervisor = s.supervisor := rfl

@[simp] theorem State.modRoster_roster (f : Roster → Roster) :
    (s.modRoster f).roster = f s.roster := rfl

@[simp] theorem State.modRoster_clock (f : Roster → Roster) :
    (s.modRoster f).clock = s.clock := rfl

@[simp] theorem State.modRoster_slots (f : Roster → Roster) :
    (s.modRoster f).slots = s.slots := rfl

@[simp] theorem State.modRoster_prices (f : Roster → Roster) :
    (s.modRoster f).prices = s.prices := rfl

@[simp] theorem State.modRoster_stock (f : Roster → Roster) :
    (s.modRoster f).stock = s.stock := rfl

@[simp] theorem State.modRoster_gauge (f : Roster → Roster) :
    (s.modRoster f).gauge = s.gauge := rfl

@[simp] theorem State.modRoster_tilt (f : Roster → Roster) :
    (s.modRoster f).tilt = s.tilt := rfl

@[simp] theorem State.modRoster_receipts (f : Roster → Roster) :
    (s.modRoster f).receipts = s.receipts := rfl

@[simp] theorem State.modRoster_journal (f : Roster → Roster) :
    (s.modRoster f).journal = s.journal := rfl

@[simp] theorem State.modRoster_cal (f : Roster → Roster) :
    (s.modRoster f).cal = s.cal := rfl

@[simp] theorem State.modRoster_depot (f : Roster → Roster) :
    (s.modRoster f).depot = s.depot := rfl

@[simp] theorem State.modRoster_supply (f : Roster → Roster) :
    (s.modRoster f).supply = s.supply := rfl

@[simp] theorem State.modRoster_resetCause (f : Roster → Roster) :
    (s.modRoster f).resetCause = s.resetCause := rfl

@[simp] theorem State.modRoster_save (f : Roster → Roster) :
    (s.modRoster f).save = s.save := rfl

@[simp] theorem State.modRoster_ports (f : Roster → Roster) :
    (s.modRoster f).ports = s.ports := rfl

@[simp] theorem State.modRoster_switches (f : Roster → Roster) :
    (s.modRoster f).switches = s.switches := rfl

@[simp] theorem State.modRoster_out (f : Roster → Roster) :
    (s.modRoster f).out = s.out := rfl


/-! ### modJournal -/

@[simp] theorem State.modJournal_pending (f : Journal → Journal) :
    (s.modJournal f).pending = s.pending := rfl

@[simp] theorem State.modJournal_now (f : Journal → Journal) :
    (s.modJournal f).now = s.now := rfl

@[simp] theorem State.modJournal_chan (f : Journal → Journal) :
    (s.modJournal f).chan = s.chan := rfl

@[simp] theorem State.modJournal_hoseCtl (f : Journal → Journal) :
    (s.modJournal f).hoseCtl = s.hoseCtl := rfl

@[simp] theorem State.modJournal_pumps (f : Journal → Journal) :
    (s.modJournal f).pumps = s.pumps := rfl

@[simp] theorem State.modJournal_nozzleReader (f : Journal → Journal) :
    (s.modJournal f).nozzleReader = s.nozzleReader := rfl

@[simp] theorem State.modJournal_panelReader (f : Journal → Journal) :
    (s.modJournal f).panelReader = s.panelReader := rfl

@[simp] theorem State.modJournal_tracking (f : Journal → Journal) :
    (s.modJournal f).tracking = s.tracking := rfl

@[simp] theorem State.modJournal_pendingTag (f : Journal → Journal) :
    (s.modJournal f).pendingTag = s.pendingTag := rfl

@[simp] theorem State.modJournal_operator (f : Journal → Journal) :
    (s.modJournal f).operator = s.operator := rfl

@[simp] theorem State.modJournal_logoffTimer (f : Journal → Journal) :
    (s.modJournal f).logoffTimer = s.logoffTimer := rfl

@[simp] theorem State.modJournal_supervisor (f : Journal → Journal) :
    (s.modJournal f).supervisor = s.supervisor := rfl

@[simp] theorem State.modJournal_roster (f : Journal → Journal) :
    (s.modJournal f).roster = s.roster := rfl

@[simp] theorem State.modJournal_clock (f : Journal → Journal) :
    (s.modJournal f).clock = s.clock := rfl

@[simp] theorem State.modJournal_slots (f : Journal → Journal) :
    (s.modJournal f).slots = s.slots := rfl

@[simp] theorem State.modJournal_prices (f : Journal → Journal) :
    (s.modJournal f).prices = s.prices := rfl

@[simp] theorem State.modJournal_stock (f : Journal → Journal) :
    (s.modJournal f).stock = s.stock := rfl

@[simp] theorem State.modJournal_gauge (f : Journal → Journal) :
    (s.modJournal f).gauge = s.gauge := rfl

@[simp] theorem State.modJournal_tilt (f : Journal → Journal) :
    (s.modJournal f).tilt = s.tilt := rfl

@[simp] theorem State.modJournal_receipts (f : Journal → Journal) :
    (s.modJournal f).receipts = s.receipts := rfl

@[simp] theorem State.modJournal_journal (f : Journal → Journal) :
    (s.modJournal f).journal = f s.journal := rfl

@[simp] theorem State.modJournal_cal (f : Journal → Journal) :
    (s.modJournal f).cal = s.cal := rfl

@[simp] theorem State.modJournal_depot (f : Journal → Journal) :
    (s.modJournal f).depot = s.depot := rfl

@[simp] theorem State.modJournal_supply (f : Journal → Journal) :
    (s.modJournal f).supply = s.supply := rfl

@[simp] theorem State.modJournal_resetCause (f : Journal → Journal) :
    (s.modJournal f).resetCause = s.resetCause := rfl

@[simp] theorem State.modJournal_save (f : Journal → Journal) :
    (s.modJournal f).save = s.save := rfl

@[simp] theorem State.modJournal_ports (f : Journal → Journal) :
    (s.modJournal f).ports = s.ports := rfl

@[simp] theorem State.modJournal_switches (f : Journal → Journal) :
    (s.modJournal f).switches = s.switches := rfl

@[simp] theorem State.modJournal_out (f : Journal → Journal) :
    (s.modJournal f).out = s.out := rfl


/-! ### modCal -/

@[simp] theorem State.modCal_pending (f : Calibration → Calibration) :
    (s.modCal f).pending = s.pending := rfl

@[simp] theorem State.modCal_now (f : Calibration → Calibration) :
    (s.modCal f).now = s.now := rfl

@[simp] theorem State.modCal_chan (f : Calibration → Calibration) :
    (s.modCal f).chan = s.chan := rfl

@[simp] theorem State.modCal_hoseCtl (f : Calibration → Calibration) :
    (s.modCal f).hoseCtl = s.hoseCtl := rfl

@[simp] theorem State.modCal_pumps (f : Calibration → Calibration) :
    (s.modCal f).pumps = s.pumps := rfl

@[simp] theorem State.modCal_nozzleReader (f : Calibration → Calibration) :
    (s.modCal f).nozzleReader = s.nozzleReader := rfl

@[simp] theorem State.modCal_panelReader (f : Calibration → Calibration) :
    (s.modCal f).panelReader = s.panelReader := rfl

@[simp] theorem State.modCal_tracking (f : Calibration → Calibration) :
    (s.modCal f).tracking = s.tracking := rfl

@[simp] theorem State.modCal_pendingTag (f : Calibration → Calibration) :
    (s.modCal f).pendingTag = s.pendingTag := rfl

@[simp] theorem State.modCal_operator (f : Calibration → Calibration) :
    (s.modCal f).operator = s.operator := rfl

@[simp] theorem State.modCal_logoffTimer (f : Calibration → Calibration) :
    (s.modCal f).logoffTimer = s.logoffTimer := rfl

@[simp] theorem State.modCal_supervisor (f : Calibration → Calibration) :
    (s.modCal f).supervisor = s.supervisor := rfl

@[simp] theorem State.modCal_roster (f : Calibration → Calibration) :
    (s.modCal f).roster = s.roster := rfl

@[simp] theorem State.modCal_clock (f : Calibration → Calibration) :
    (s.modCal f).clock = s.clock := rfl

@[simp] theorem State.modCal_slots (f : Calibration → Calibration) :
    (s.modCal f).slots = s.slots := rfl

@[simp] theorem State.modCal_prices (f : Calibration → Calibration) :
    (s.modCal f).prices = s.prices := rfl

@[simp] theorem State.modCal_stock (f : Calibration → Calibration) :
    (s.modCal f).stock = s.stock := rfl

@[simp] theorem State.modCal_gauge (f : Calibration → Calibration) :
    (s.modCal f).gauge = s.gauge := rfl

@[simp] theorem State.modCal_tilt (f : Calibration → Calibration) :
    (s.modCal f).tilt = s.tilt := rfl

@[simp] theorem State.modCal_receipts (f : Calibration → Calibration) :
    (s.modCal f).receipts = s.receipts := rfl

@[simp] theorem State.modCal_journal (f : Calibration → Calibration) :
    (s.modCal f).journal = s.journal := rfl

@[simp] theorem State.modCal_cal (f : Calibration → Calibration) :
    (s.modCal f).cal = f s.cal := rfl

@[simp] theorem State.modCal_depot (f : Calibration → Calibration) :
    (s.modCal f).depot = s.depot := rfl

@[simp] theorem State.modCal_supply (f : Calibration → Calibration) :
    (s.modCal f).supply = s.supply := rfl

@[simp] theorem State.modCal_resetCause (f : Calibration → Calibration) :
    (s.modCal f).resetCause = s.resetCause := rfl

@[simp] theorem State.modCal_save (f : Calibration → Calibration) :
    (s.modCal f).save = s.save := rfl

@[simp] theorem State.modCal_ports (f : Calibration → Calibration) :
    (s.modCal f).ports = s.ports := rfl

@[simp] theorem State.modCal_switches (f : Calibration → Calibration) :
    (s.modCal f).switches = s.switches := rfl

@[simp] theorem State.modCal_out (f : Calibration → Calibration) :
    (s.modCal f).out = s.out := rfl


/-! ### setPendingTag -/

@[simp] theorem State.setPendingTag_pending (h : Hose) (b : Bool) :
    (s.setPendingTag h b).pending = s.pending := rfl

@[simp] theorem State.setPendingTag_now (h : Hose) (b : Bool) :
    (s.setPendingTag h b).now = s.now := rfl

@[simp] theorem State.setPendingTag_chan (h : Hose) (b : Bool) :
    (s.setPendingTag h b).chan = s.chan := rfl

@[simp] theorem State.setPendingTag_hoseCtl (h : Hose) (b : Bool) :
    (s.setPendingTag h b).hoseCtl = s.hoseCtl := rfl

@[simp] theorem State.setPendingTag_pumps (h : Hose) (b : Bool) :
    (s.setPendingTag h b).pumps = s.pumps := rfl

@[simp] theorem State.setPendingTag_nozzleReader (h : Hose) (b : Bool) :
    (s.setPendingTag h b).nozzleReader = s.nozzleReader := rfl

@[simp] theorem State.setPendingTag_panelReader (h : Hose) (b : Bool) :
    (s.setPendingTag h b).panelReader = s.panelReader := rfl

@[simp] theorem State.setPendingTag_tracking (h : Hose) (b : Bool) :
    (s.setPendingTag h b).tracking = s.tracking := rfl

@[simp] theorem State.setPendingTag_pendingTag (h : Hose) (b : Bool) :
    (s.setPendingTag h b).pendingTag = s.pendingTag.set h b := rfl

@[simp] theorem State.setPendingTag_operator (h : Hose) (b : Bool) :
    (s.setPendingTag h b).operator = s.operator := rfl

@[simp] theorem State.setPendingTag_logoffTimer (h : Hose) (b : Bool) :
    (s.setPendingTag h b).logoffTimer = s.logoffTimer := rfl

@[simp] theorem State.setPendingTag_supervisor (h : Hose) (b : Bool) :
    (s.setPendingTag h b).supervisor = s.supervisor := rfl

@[simp] theorem State.setPendingTag_roster (h : Hose) (b : Bool) :
    (s.setPendingTag h b).roster = s.roster := rfl

@[simp] theorem State.setPendingTag_clock (h : Hose) (b : Bool) :
    (s.setPendingTag h b).clock = s.clock := rfl

@[simp] theorem State.setPendingTag_slots (h : Hose) (b : Bool) :
    (s.setPendingTag h b).slots = s.slots := rfl

@[simp] theorem State.setPendingTag_prices (h : Hose) (b : Bool) :
    (s.setPendingTag h b).prices = s.prices := rfl

@[simp] theorem State.setPendingTag_stock (h : Hose) (b : Bool) :
    (s.setPendingTag h b).stock = s.stock := rfl

@[simp] theorem State.setPendingTag_gauge (h : Hose) (b : Bool) :
    (s.setPendingTag h b).gauge = s.gauge := rfl

@[simp] theorem State.setPendingTag_tilt (h : Hose) (b : Bool) :
    (s.setPendingTag h b).tilt = s.tilt := rfl

@[simp] theorem State.setPendingTag_receipts (h : Hose) (b : Bool) :
    (s.setPendingTag h b).receipts = s.receipts := rfl

@[simp] theorem State.setPendingTag_journal (h : Hose) (b : Bool) :
    (s.setPendingTag h b).journal = s.journal := rfl

@[simp] theorem State.setPendingTag_cal (h : Hose) (b : Bool) :
    (s.setPendingTag h b).cal = s.cal := rfl

@[simp] theorem State.setPendingTag_depot (h : Hose) (b : Bool) :
    (s.setPendingTag h b).depot = s.depot := rfl

@[simp] theorem State.setPendingTag_supply (h : Hose) (b : Bool) :
    (s.setPendingTag h b).supply = s.supply := rfl

@[simp] theorem State.setPendingTag_resetCause (h : Hose) (b : Bool) :
    (s.setPendingTag h b).resetCause = s.resetCause := rfl

@[simp] theorem State.setPendingTag_save (h : Hose) (b : Bool) :
    (s.setPendingTag h b).save = s.save := rfl

@[simp] theorem State.setPendingTag_ports (h : Hose) (b : Bool) :
    (s.setPendingTag h b).ports = s.ports := rfl

@[simp] theorem State.setPendingTag_switches (h : Hose) (b : Bool) :
    (s.setPendingTag h b).switches = s.switches := rfl

@[simp] theorem State.setPendingTag_out (h : Hose) (b : Bool) :
    (s.setPendingTag h b).out = s.out := rfl


/-! ### raise -/

@[simp] theorem State.raise_pending (e : Event) :
    (s.raise e).pending = s.pending := rfl

@[simp] theorem State.raise_now (e : Event) :
    (s.raise e).now = s.now := rfl

@[simp] theorem State.raise_chan (e : Event) :
    (s.raise e).chan = s.chan := rfl

@[simp] theorem State.raise_hoseCtl (e : Event) :
    (s.raise e).hoseCtl = s.hoseCtl := rfl

@[simp] theorem State.raise_pumps (e : Event) :
    (s.raise e).pumps = s.pumps := rfl

@[simp] theorem State.raise_nozzleReader (e : Event) :
    (s.raise e).nozzleReader = s.nozzleReader := rfl

@[simp] theorem State.raise_panelReader (e : Event) :
    (s.raise e).panelReader = s.panelReader := rfl

@[simp] theorem State.raise_tracking (e : Event) :
    (s.raise e).tracking = s.tracking := rfl

@[simp] theorem State.raise_pendingTag (e : Event) :
    (s.raise e).pendingTag = s.pendingTag := rfl

@[simp] theorem State.raise_operator (e : Event) :
    (s.raise e).operator = s.operator := rfl

@[simp] theorem State.raise_logoffTimer (e : Event) :
    (s.raise e).logoffTimer = s.logoffTimer := rfl

@[simp] theorem State.raise_supervisor (e : Event) :
    (s.raise e).supervisor = s.supervisor := rfl

@[simp] theorem State.raise_roster (e : Event) :
    (s.raise e).roster = s.roster := rfl

@[simp] theorem State.raise_clock (e : Event) :
    (s.raise e).clock = s.clock := rfl

@[simp] theorem State.raise_slots (e : Event) :
    (s.raise e).slots = s.slots := rfl

@[simp] theorem State.raise_prices (e : Event) :
    (s.raise e).prices = s.prices := rfl

@[simp] theorem State.raise_stock (e : Event) :
    (s.raise e).stock = s.stock := rfl

@[simp] theorem State.raise_gauge (e : Event) :
    (s.raise e).gauge = s.gauge := rfl

@[simp] theorem State.raise_tilt (e : Event) :
    (s.raise e).tilt = s.tilt := rfl

@[simp] theorem State.raise_receipts (e : Event) :
    (s.raise e).receipts = s.receipts := rfl

@[simp] theorem State.raise_journal (e : Event) :
    (s.raise e).journal = s.journal := rfl

@[simp] theorem State.raise_cal (e : Event) :
    (s.raise e).cal = s.cal := rfl

@[simp] theorem State.raise_depot (e : Event) :
    (s.raise e).depot = s.depot := rfl

@[simp] theorem State.raise_supply (e : Event) :
    (s.raise e).supply = s.supply := rfl

@[simp] theorem State.raise_resetCause (e : Event) :
    (s.raise e).resetCause = s.resetCause := rfl

@[simp] theorem State.raise_save (e : Event) :
    (s.raise e).save = s.save := rfl

@[simp] theorem State.raise_switches (e : Event) :
    (s.raise e).switches = s.switches := rfl

@[simp] theorem State.raise_out (e : Event) :
    (s.raise e).out = s.out := rfl


/-! ### modReader -/

@[simp] theorem State.modReader_pending (r : Reader) (f : ReaderState → ReaderState) :
    (s.modReader r f).pending = s.pending := by cases r <;> rfl

@[simp] theorem State.modReader_now (r : Reader) (f : ReaderState → ReaderState) :
    (s.modReader r f).now = s.now := by cases r <;> rfl

@[simp] theorem State.modReader_chan (r : Reader) (f : ReaderState → ReaderState) :
    (s.modReader r f).chan = s.chan := by cases r <;> rfl

@[simp] theorem State.modReader_hoseCtl (r : Reader) (f : ReaderState → ReaderState) :
    (s.modReader r f).hoseCtl = s.hoseCtl := by cases r <;> rfl

@[simp] theorem State.modReader_pumps (r : Reader) (f : ReaderState → ReaderState) :
    (s.modReader r f).pumps = s.pumps := by cases r <;> rfl

@[simp] theorem State.modReader_tracking (r : Reader) (f : ReaderState → ReaderState) :
    (s.modReader r f).tracking = s.tracking := by cases r <;> rfl

@[simp] theorem State.modReader_pendingTag (r : Reader) (f : ReaderState → ReaderState) :
    (s.modReader r f).pendingTag = s.pendingTag := by cases r <;> rfl

@[simp] theorem State.modReader_operator (r : Reader) (f : ReaderState → ReaderState) :
    (s.modReader r f).operator = s.operator := by cases r <;> rfl

@[simp] theorem State.modReader_logoffTimer (r : Reader) (f : ReaderState → ReaderState) :
    (s.modReader r f).logoffTimer = s.logoffTimer := by cases r <;> rfl

@[simp] theorem State.modReader_supervisor (r : Reader) (f : ReaderState → ReaderState) :
    (s.modReader r f).supervisor = s.supervisor := by cases r <;> rfl

@[simp] theorem State.modReader_roster (r : Reader) (f : ReaderState → ReaderState) :
    (s.modReader r f).roster = s.roster := by cases r <;> rfl

@[simp] theorem State.modReader_clock (r : Reader) (f : ReaderState → ReaderState) :
    (s.modReader r f).clock = s.clock := by cases r <;> rfl

@[simp] theorem State.modReader_slots (r : Reader) (f : ReaderState → ReaderState) :
    (s.modReader r f).slots = s.slots := by cases r <;> rfl

@[simp] theorem State.modReader_prices (r : Reader) (f : ReaderState → ReaderState) :
    (s.modReader r f).prices = s.prices := by cases r <;> rfl

@[simp] theorem State.modReader_stock (r : Reader) (f : ReaderState → ReaderState) :
    (s.modReader r f).stock = s.stock := by cases r <;> rfl

@[simp] theorem State.modReader_gauge (r : Reader) (f : ReaderState → ReaderState) :
    (s.modReader r f).gauge = s.gauge := by cases r <;> rfl

@[simp] theorem State.modReader_tilt (r : Reader) (f : ReaderState → ReaderState) :
    (s.modReader r f).tilt = s.tilt := by cases r <;> rfl

@[simp] theorem State.modReader_receipts (r : Reader) (f : ReaderState → ReaderState) :
    (s.modReader r f).receipts = s.receipts := by cases r <;> rfl

@[simp] theorem State.modReader_journal (r : Reader) (f : ReaderState → ReaderState) :
    (s.modReader r f).journal = s.journal := by cases r <;> rfl

@[simp] theorem State.modReader_cal (r : Reader) (f : ReaderState → ReaderState) :
    (s.modReader r f).cal = s.cal := by cases r <;> rfl

@[simp] theorem State.modReader_depot (r : Reader) (f : ReaderState → ReaderState) :
    (s.modReader r f).depot = s.depot := by cases r <;> rfl

@[simp] theorem State.modReader_supply (r : Reader) (f : ReaderState → ReaderState) :
    (s.modReader r f).supply = s.supply := by cases r <;> rfl

@[simp] theorem State.modReader_resetCause (r : Reader) (f : ReaderState → ReaderState) :
    (s.modReader r f).resetCause = s.resetCause := by cases r <;> rfl

@[simp] theorem State.modReader_save (r : Reader) (f : ReaderState → ReaderState) :
    (s.modReader r f).save = s.save := by cases r <;> rfl

@[simp] theorem State.modReader_ports (r : Reader) (f : ReaderState → ReaderState) :
    (s.modReader r f).ports = s.ports := by cases r <;> rfl

@[simp] theorem State.modReader_switches (r : Reader) (f : ReaderState → ReaderState) :
    (s.modReader r f).switches = s.switches := by cases r <;> rfl

@[simp] theorem State.modReader_out (r : Reader) (f : ReaderState → ReaderState) :
    (s.modReader r f).out = s.out := by cases r <;> rfl

@[simp] theorem State.modReader_reader (r : Reader) (f : ReaderState → ReaderState) :
    (s.modReader r f).reader r = f (s.reader r) := by cases r <;> simp [State.modReader, State.reader]

/-- A raise sets the port's bits of the event in the flags, or in the held events while the supply is SAVED
(R188, R198). -/
theorem State.raise_ports (e : Event) (p : Port) :
    (s.raise e).ports.get p = (s.ports.get p).raise s.isNormal (e.mask p) := by cases p <;> rfl

end Sys2Proof.Machine
end

