-- ==== Sys2Proof/Laws/Ops.lean ====
section
/-! SUPPORT. What the shared operations can do, said once: the fields each may change, and the new values it
gives. Proofs about commands cite these instead of unfolding the operations. -/

namespace Sys2Proof.Machine

open Sys2Proof

variable (s : State)

/-! ### Outcome -/

theorem State.finish_eq : s.finish = .next { s with out := s.outputs } := rfl

theorem State.finish_next {s t : State} (e : s.finish = .next t) : t = { s with out := s.outputs } := by
  simp only [State.finish, Host.Outcome.next.injEq] at e
  exact e.symm

/-- The driven levels depend on every field but the levels themselves. -/
theorem State.outputs_out (o : Outputs) : ({ s with out := o } : State).outputs = s.outputs := rfl

/-! ### Events -/

theorem State.raise_frame (e : Event) : s.raise e = { s with ports := (s.raise e).ports } := rfl

theorem State.latchHeld_frame : s.latchHeld = { s with ports := s.latchHeld.ports } := rfl

/-! ### A slot's change of state (R42, R67, R116) -/

theorem State.recountDemand_frame (c : Comp) :
    s.recountDemand c = { s with pumps := (s.recountDemand c).pumps } := rfl

theorem State.noteActivity_frame (was now : SlotState) :
    s.noteActivity was now = { s with logoffTimer := (s.noteActivity was now).logoffTimer } := by
  unfold State.noteActivity
  split
  · rfl
  · split <;> rfl

/-- A change of state writes the slot's state, the pumps, the logoff timer and the ports. -/
theorem State.setSlotState_frame (h : Hose) (st : SlotState) :
    ∃ pumps logoff ports,
      s.setSlotState h st =
        { s with
          slots := s.slots.set h { s.slots.get h with state := st }
          pumps := pumps, logoffTimer := logoff, ports := ports } := by
  unfold State.setSlotState
  rw [State.raise_frame, State.noteActivity_frame, State.recountDemand_frame]
  exact ⟨_, _, _, rfl⟩

@[simp] theorem State.setSlotState_slots (h : Hose) (st : SlotState) :
    (s.setSlotState h st).slots = s.slots.set h { s.slots.get h with state := st } := by
  obtain ⟨_, _, _, e⟩ := s.setSlotState_frame h st
  rw [e]

@[simp] theorem State.setSlotState_slotState (h : Hose) (st : SlotState) :
    (s.setSlotState h st).slotState h = st := by simp [State.slotState]

theorem State.setSlotState_slotState_ne {h k : Hose} (st : SlotState) (hk : k ≠ h) :
    (s.setSlotState h st).slotState k = s.slotState k := by simp [State.slotState, hk]

/-! ### Entry to CLOSING (R32) -/

/-- Entry to CLOSING does nothing to a slot that is not READY, FLOWING, SLOWING or PAUSED. -/
theorem State.enterClosing_idle {h : Hose} (cause : EndCause) (hs : (s.slotState h).running = false) :
    s.enterClosing h cause = s := by simp [State.enterClosing, hs]

/-- A running slot is in CLOSING afterwards, with the cause. -/
theorem State.enterClosing_slot {h : Hose} (cause : EndCause) (hs : (s.slotState h).running = true) :
    (s.enterClosing h cause).slots.get h
      = { s.slots.get h with state := .closing, endCause := some cause } := by
  simp [State.enterClosing, hs]

/-- Entry to CLOSING writes slots, hose control, tracking, pumps, the logoff timer and the ports. -/
theorem State.enterClosing_frame (h : Hose) (cause : EndCause) :
    ∃ slots ctl tracking pumps logoff ports,
      s.enterClosing h cause =
        { s with
          slots := slots, hoseCtl := ctl, tracking := tracking, pumps := pumps, logoffTimer := logoff
          ports := ports } := by
  unfold State.enterClosing
  split
  · obtain ⟨_, _, _, e⟩ := State.setSlotState_frame _ h .closing
    exact ⟨_, _, _, _, _, _, e⟩
  · exact ⟨_, _, _, _, _, _, rfl⟩

@[simp] theorem State.enterClosing_pending (h : Hose) (cause : EndCause) :
    (s.enterClosing h cause).pending = s.pending := by
  obtain ⟨_, _, _, _, _, _, e⟩ := s.enterClosing_frame h cause
  rw [e]

@[simp] theorem State.enterClosing_now (h : Hose) (cause : EndCause) :
    (s.enterClosing h cause).now = s.now := by
  obtain ⟨_, _, _, _, _, _, e⟩ := s.enterClosing_frame h cause
  rw [e]

@[simp] theorem State.enterClosing_chan (h : Hose) (cause : EndCause) :
    (s.enterClosing h cause).chan = s.chan := by
  obtain ⟨_, _, _, _, _, _, e⟩ := s.enterClosing_frame h cause
  rw [e]

@[simp] theorem State.enterClosing_nozzleReader (h : Hose) (cause : EndCause) :
    (s.enterClosing h cause).nozzleReader = s.nozzleReader := by
  obtain ⟨_, _, _, _, _, _, e⟩ := s.enterClosing_frame h cause
  rw [e]

@[simp] theorem State.enterClosing_panelReader (h : Hose) (cause : EndCause) :
    (s.enterClosing h cause).panelReader = s.panelReader := by
  obtain ⟨_, _, _, _, _, _, e⟩ := s.enterClosing_frame h cause
  rw [e]

@[simp] theorem State.enterClosing_pendingTag (h : Hose) (cause : EndCause) :
    (s.enterClosing h cause).pendingTag = s.pendingTag := by
  obtain ⟨_, _, _, _, _, _, e⟩ := s.enterClosing_frame h cause
  rw [e]

@[simp] theorem State.enterClosing_operator (h : Hose) (cause : EndCause) :
    (s.enterClosing h cause).operator = s.operator := by
  obtain ⟨_, _, _, _, _, _, e⟩ := s.enterClosing_frame h cause
  rw [e]

@[simp] theorem State.enterClosing_supervisor (h : Hose) (cause : EndCause) :
    (s.enterClosing h cause).supervisor = s.supervisor := by
  obtain ⟨_, _, _, _, _, _, e⟩ := s.enterClosing_frame h cause
  rw [e]

@[simp] theorem State.enterClosing_roster (h : Hose) (cause : EndCause) :
    (s.enterClosing h cause).roster = s.roster := by
  obtain ⟨_, _, _, _, _, _, e⟩ := s.enterClosing_frame h cause
  rw [e]

@[simp] theorem State.enterClosing_clock (h : Hose) (cause : EndCause) :
    (s.enterClosing h cause).clock = s.clock := by
  obtain ⟨_, _, _, _, _, _, e⟩ := s.enterClosing_frame h cause
  rw [e]

@[simp] theorem State.enterClosing_prices (h : Hose) (cause : EndCause) :
    (s.enterClosing h cause).prices = s.prices := by
  obtain ⟨_, _, _, _, _, _, e⟩ := s.enterClosing_frame h cause
  rw [e]

@[simp] theorem State.enterClosing_stock (h : Hose) (cause : EndCause) :
    (s.enterClosing h cause).stock = s.stock := by
  obtain ⟨_, _, _, _, _, _, e⟩ := s.enterClosing_frame h cause
  rw [e]

@[simp] theorem State.enterClosing_gauge (h : Hose) (cause : EndCause) :
    (s.enterClosing h cause).gauge = s.gauge := by
  obtain ⟨_, _, _, _, _, _, e⟩ := s.enterClosing_frame h cause
  rw [e]

@[simp] theorem State.enterClosing_tilt (h : Hose) (cause : EndCause) :
    (s.enterClosing h cause).tilt = s.tilt := by
  obtain ⟨_, _, _, _, _, _, e⟩ := s.enterClosing_frame h cause
  rw [e]

@[simp] theorem State.enterClosing_receipts (h : Hose) (cause : EndCause) :
    (s.enterClosing h cause).receipts = s.receipts := by
  obtain ⟨_, _, _, _, _, _, e⟩ := s.enterClosing_frame h cause
  rw [e]

@[simp] theorem State.enterClosing_journal (h : Hose) (cause : EndCause) :
    (s.enterClosing h cause).journal = s.journal := by
  obtain ⟨_, _, _, _, _, _, e⟩ := s.enterClosing_frame h cause
  rw [e]

@[simp] theorem State.enterClosing_cal (h : Hose) (cause : EndCause) :
    (s.enterClosing h cause).cal = s.cal := by
  obtain ⟨_, _, _, _, _, _, e⟩ := s.enterClosing_frame h cause
  rw [e]

@[simp] theorem State.enterClosing_depot (h : Hose) (cause : EndCause) :
    (s.enterClosing h cause).depot = s.depot := by
  obtain ⟨_, _, _, _, _, _, e⟩ := s.enterClosing_frame h cause
  rw [e]

@[simp] theorem State.enterClosing_supply (h : Hose) (cause : EndCause) :
    (s.enterClosing h cause).supply = s.supply := by
  obtain ⟨_, _, _, _, _, _, e⟩ := s.enterClosing_frame h cause
  rw [e]

@[simp] theorem State.enterClosing_resetCause (h : Hose) (cause : EndCause) :
    (s.enterClosing h cause).resetCause = s.resetCause := by
  obtain ⟨_, _, _, _, _, _, e⟩ := s.enterClosing_frame h cause
  rw [e]

@[simp] theorem State.enterClosing_save (h : Hose) (cause : EndCause) :
    (s.enterClosing h cause).save = s.save := by
  obtain ⟨_, _, _, _, _, _, e⟩ := s.enterClosing_frame h cause
  rw [e]

@[simp] theorem State.enterClosing_switches (h : Hose) (cause : EndCause) :
    (s.enterClosing h cause).switches = s.switches := by
  obtain ⟨_, _, _, _, _, _, e⟩ := s.enterClosing_frame h cause
  rw [e]

@[simp] theorem State.enterClosing_out (h : Hose) (cause : EndCause) :
    (s.enterClosing h cause).out = s.out := by
  obtain ⟨_, _, _, _, _, _, e⟩ := s.enterClosing_frame h cause
  rw [e]

theorem State.enterClosing_slots_ne {h k : Hose} (cause : EndCause) (hk : k ≠ h) :
    (s.enterClosing h cause).slots.get k = s.slots.get k := by
  unfold State.enterClosing
  split
  · simp [hk]
  · rfl

/-! ### The volume comparison (R28) -/

/-- The comparison closes the slot, slows it, or leaves the state as it is. -/
theorem State.compareVolume_cases (h : Hose) :
    s.compareVolume h = s.enterClosing h .presetReached ∨ s.compareVolume h = s.enterSlowing h
      ∨ s.compareVolume h = s := by
  unfold State.compareVolume
  split
  · exact .inl rfl
  · split
    · exact .inr (.inl rfl)
    · exact .inr (.inr rfl)

/-! ### Journal (R158 to R162) -/

theorem State.noteFree_frame (before : Nat) :
    ∃ latch ports, s.noteFree before =
      { s with journal := { s.journal with highLatch := latch }, ports := ports } := by
  unfold State.noteFree
  split
  · exact ⟨_, _, rfl⟩
  · split
    · exact ⟨_, _, rfl⟩
    · exact ⟨_, _, rfl⟩

/-- A reservation puts the holder, with the clock's mark, into the register. -/
@[simp] theorem State.reserveSlot_register (k : Holder) :
    (s.reserveSlot k).journal.register = s.journal.register.put k (some !s.clock.valid) := by
  unfold State.reserveSlot
  obtain ⟨_, _, e⟩ := (s.modJournal fun j =>
    { j with register := j.register.put k (some !s.clock.valid) }).noteFree_frame s.journal.free
  rw [e]; rfl

/-- A record is appended at the next sequence number, which rises by one. -/
theorem State.pushRecord_journal (body : RecordBody) (mark : Bool) :
    (s.pushRecord body mark).journal =
      { s.journal with
        records :=
          s.journal.records ++ [⟨s.journal.next, body.ownClockInvalid || !s.clock.valid || mark, body⟩]
        next := s.journal.next + 1 } := rfl

/-- A conversion writes the holder's record and empties its place, or finds no holder and does nothing. -/
theorem State.convertSlot_cases (k : Holder) (body : RecordBody) :
    (s.journal.register.get k = none ∧ s.convertSlot k body = s)
      ∨ ∃ mark, s.journal.register.get k = some mark
        ∧ s.convertSlot k body =
          (s.modJournal fun j => { j with register := j.register.put k none }).pushRecord body mark := by
  unfold State.convertSlot
  cases s.journal.register.get k with
  | none => exact .inl ⟨rfl, rfl⟩
  | some mark => exact .inr ⟨mark, rfl, rfl⟩

/-! ### Stock (R118, R122, R128) -/

/-- The cut flag agrees with book and dead stock after each evaluation. -/
theorem State.evaluateCut_cut (c : Comp) :
    ((s.evaluateCut c).stock.get c).cut = decide ((s.stock.get c).book ≤ s.cal.dead.get c) := by
  have close (t : State) (d : Comp) : (t.closeForCut d).stock = t.stock := by
    cases d <;> simp [State.closeForCut]
  unfold State.evaluateCut
  simp only
  split
  · rename_i e; exact e.symm
  · split <;> simp_all

/-! ### Ports (R194, R195) -/

/-- A command that a port takes is handed to its owner, and answered. -/
theorem State.takeCommand_taken {s : State} {p : Port} {accepts : Port → Bool} {whileSaved : Bool}
    {owner : State → Answer} (hb : (s.ports.get p).buffer = none) (hp : accepts p = true)
    (hn : s.supply = .normal) :
    s.takeCommand p accepts whileSaved owner = (owner s).1.answer p (owner s).2 := by
  simp [State.takeCommand, State.judge, hb, hp, State.isNormal, hn]

/-- With the buffer occupied a command's frame is discarded (R194). -/
theorem State.takeCommand_occupied {s : State} {p : Port} {accepts : Port → Bool} {whileSaved : Bool}
    {owner : State → Answer} (hb : (s.ports.get p).buffer ≠ none) :
    s.takeCommand p accepts whileSaved owner = s.discardFrame p := by
  cases e : (s.ports.get p).buffer with
  | none => exact absurd e hb
  | some r => simp [State.takeCommand, e]

end Sys2Proof.Machine
end

