-- ==== Sys2Proof/Laws/Meter.lean ====
section
/-! SUPPORT. What the operations of a pulse and of a reader's fault can do, said once. -/

namespace Sys2Proof.Machine

open Sys2Proof

variable (s : State)

/-- LEAK detection writes the hose's control record and the ports (R46). -/
theorem State.senseLeak_frame (h : Hose) :
    s.senseLeak h = { s with hoseCtl := (s.senseLeak h).hoseCtl, ports := (s.senseLeak h).ports } := by
  unfold State.senseLeak
  split
  · rfl
  · split
    · simp only
      split
      · unfold State.meterException
        rw [State.raise_frame]
        rfl
      · rfl
    · rfl

@[simp] theorem State.senseLeak_slots (h : Hose) : (s.senseLeak h).slots = s.slots := by
  rw [s.senseLeak_frame h]

@[simp] theorem State.senseLeak_stock (h : Hose) : (s.senseLeak h).stock = s.stock := by
  rw [s.senseLeak_frame h]

/-- The increment counted in D is that of `Receipt.counting` (R141). -/
theorem State.countDispensed_receipts (c : Comp) (n : Nat) :
    (s.countDispensed c n).receipts = s.receipts.set c ((s.receipts.get c).counting n) := by
  have own : s.receipts.set c (s.receipts.get c) = s.receipts := by cases c <;> rfl
  unfold State.countDispensed Receipt.counting
  cases e : (s.receipts.get c).state <;> simp [own, State.modReceipt, maxVolume, e]

/-- The latch after a change of the free count from `before` (R162). -/
theorem State.noteFree_latch (before : Nat) :
    (s.noteFree before).journal.highLatch =
      (if 33 ≤ before ∧ s.journal.free ≤ 32 then true
       else if before ≤ 32 ∧ 33 ≤ s.journal.free then false
       else s.journal.highLatch) := by
  unfold State.noteFree
  split
  · rfl
  · split <;> rfl

/-- A fault report leaves a reader that is OFF alone, and takes any other to FAULT (R51). -/
theorem State.enterFault_off {r : Reader} (off : (s.reader r).link = .off) : s.enterFault r = s := by
  simp [State.enterFault, off, LinkState.canFault]

end Sys2Proof.Machine
end

