-- ==== Sys2Proof/Tests/Slice0.lean ====
section
/-! SUPPORT. The model's own tests: refusals of the well-formedness checks, frames written out from the
layouts of 11.5, the spec's worked cases, one step each, and a state that meets the hypotheses of each
statement. Expected values come from the spec. -/

namespace Sys2Proof.Tests

open Sys2Proof Sys2Proof.Machine

/-! ### Well-formedness -/

/-- A transfer that begins with WRITE is no void transfer (R194). -/
theorem test_wf_void : (Instr.voidTransfer .panel [0x57, 0x01]).wellFormed = false := by decide

/-- A frame that names a command is not in the row UNKNOWN_COMMAND (R195): READ_STATUS is 01 00. -/
theorem test_wf_unknown : (Instr.unknownCommand .panel [0x01, 0x00]).wellFormed = false := by decide

/-- A count of 1 with no entry (R195). -/
theorem test_wf_roster : (Instr.loadRoster .office 1 []).wellFormed = false := by decide

/-- A count of 2 with one point (R202). -/
theorem test_wf_strap : (Instr.calStrapLoad .depot 0 1 2 [⟨100, 3000⟩]).wellFormed = false := by decide

/-- A request for number 0, which is no machine (00). -/
theorem test_wf_rosterWait : (Instr.rosterWaitExpiry 0).wellFormed = false := by decide

/-! ### Frames, byte by byte from 11.3 and R202 -/

/-- IDENTIFY: code 10H, 5 bytes: hose 2, mode 1 (typed), machine 40,117 = 009CB5H. -/
theorem test_frame_identify :
    decodeFrame .panel [0x10, 0x05, 0x02, 0x01, 0x00, 0x9C, 0xB5] = .command (.identify .panel 2 1 40117) := by
  decide

/-- SET_PRICE: code 24H, 4 bytes: product 1, price 1,874 = 000752H. -/
theorem test_frame_setPrice :
    decodeFrame .office [0x24, 0x04, 0x01, 0x00, 0x07, 0x52] = .command (.setPrice .office 1 1874) := by decide

/-- CAL_SET_KQ: code 36H, 3 bytes: hose 1, Kq 2,400 = 0960H. -/
theorem test_frame_calSetKq :
    decodeFrame .depot [0x36, 0x03, 0x01, 0x09, 0x60] = .command (.calSetKq .depot 1 2400) := by decide

/-- READ_EVENTS: code 03H, empty. -/
theorem test_frame_readEvents : decodeFrame .office [0x03, 0x00] = .command (.readEvents .office) := by decide

/-- A length byte that disagrees with the frame is BAD_FRAME, and code 7FH names no command (R195). -/
theorem test_frame_bad :
    decodeFrame .panel [0x13, 0x02, 0x01] = .badFrame ∧ decodeFrame .panel [0x7F, 0x00] = .unknownCode := by
  decide

/-- The rows of the table give no bits (log 6). -/
theorem test_no_table_word : decodeTableWord 8 1 = none := rfl

/-! ### Worked cases -/

/-- 1.3, Kq = 400: remainder 200 takes 3 cL and ends at 0; Kq = 20,000 takes 1 cL at the twentieth. -/
theorem test_pulseStep :
    pulseStep 400 0 = (2, 200) ∧ pulseStep 400 200 = (3, 0) ∧ pulseStep 20000 19000 = (1, 0)
      ∧ pulseStep 200 0 = (5, 0) := by decide

/-- 1.8 and 1.9: net of the worked dispense, of the coldest product and of the two rounded halves. -/
theorem test_net :
    netOf 830 20051 2486324 = 19845 ∧ netOf 2000 1000 (-550000) = 1110 ∧ correction 500 (-50000) = -3
      ∧ correction 500 50000 = 3 := by decide

/-- 1.8, 1.9 and 1.6: amounts. -/
theorem test_amount :
    amountOf 19845 1874 = 37190 ∧ amountOf 999999 99999 = 99998900 ∧ amountOf 5 1874 = 9 := by decide

/-- 1.8: the weighted mean temperature is 27.4 °C. -/
theorem test_meanTemp :
    (TxnContext.meanTemp ⟨2400, 600, 20051, 2486324, 19845, 37190⟩) = some 274 := by decide

/-- 6.5: the worked gauge volumes, inside the table, at a point, below it and past its last point. -/
theorem test_gauge :
    gaugeGross [⟨12000, 600000⟩, ⟨13000, 665000⟩] 12345 = (622425, false)
      ∧ gaugeNet 830 622425 312 = 614056
      ∧ gaugeNet 830 665000 (-200) = 684318
      ∧ gaugeGross [⟨100, 3000⟩, ⟨38500, 1200000⟩] 45 = (3000, false)
      ∧ gaugeGross [⟨100, 3000⟩, ⟨38500, 1200000⟩] 38620 = (1200000, true) := by decide

/-- 3.5: plausible hours against a reference with the maximum jump of 20,000, and two that are not. -/
theorem test_hours :
    implausible (some 124861) 20000 142000 = false ∧ implausible (some 124861) 20000 150000 = true
      ∧ implausible (some 124861) 20000 12486 = true := by decide

/-- 1.7: a totalizer at 99,999,999,998 that gains 5 becomes 3 (R18). -/
theorem test_totalizer :
    ((Channel.fresh ⟨false, false⟩ ⟨99999999998, 0⟩ 0).totalize 5 5).grossTotalizer = 3 := by decide

/-- 4.2: machines 21 and 85 fall in set 5. -/
theorem test_machineSet : machineSet 21 = 5 ∧ machineSet 85 = 5 := by decide

/-! ### One step -/

/-- The state after a command, for tests. -/
def after (i : Instr) (s : State) : State :=
  match exec i s with
  | .next t => t
  | .fault _ => s
  | .refused _ => s

/-- The state right after reset with a slot in a state. -/
def withSlot (h : Hose) (st : SlotState) (s : State := State.reset) : State :=
  { s with
    slots := s.slots.set h { s.slots.get h with state := st }
    chan := s.chan.set h { s.chan.get h with bound := st.authorised } }

/-- The state right after reset with a receipt in a state and both its timers running. -/
def withReceipt (c : Comp) (st : ReceiptState) : State :=
  { State.reset with
    receipts := State.reset.receipts.set c
      { Receipt.fresh with
        state := st, declared := some 600000, qualification := some 0, limit := some 0 }
    journal := { State.reset.journal with
      register := State.reset.journal.register.put (.receipt c) (some false) } }

/-- The power-on of a part as manufactured is the reset state (R192; log 8). -/
theorem test_powerOn_hose :
    (after (.powerOn (PerHose.all ⟨false, false⟩) State.reset.switches) State.reset).chan = State.reset.chan := by
  decide

theorem test_powerOn_ports :
    (after (.powerOn (PerHose.all ⟨false, false⟩) State.reset.switches) State.reset).ports = State.reset.ports := by
  decide

/-- SET_PRICE stores 18.74 for diesel. -/
theorem test_setPrice : (after (.setPrice .office 1 1874) State.reset).prices.a = 1874 := by decide

/-- A lift of the armed, idle hose opens its slot and powers its reader (R39, R51, R95). -/
theorem test_lift :
    (after (.nozzleLift .h2) State.reset).slotState .h2 = .ident
      ∧ (after (.nozzleLift .h2) State.reset).out.coil.h2 = true := by decide

/-- STOP in FLOWING closes the slot (R38). -/
theorem test_stop : (after (.stop .panel 1) (withSlot .h1 .flowing)).slotState .h1 = .closing := by decide

/-- STOP in IDLE is BUSY (R38). -/
theorem test_stop_busy :
    (after (.stop .panel 1) State.reset).ports.panel.buffer = some ⟨.busy, []⟩ := by decide

/-- A rise of P1 with P2 low is forward, and reverse with P2 high (R3). -/
theorem test_direction :
    (Channel.fresh ⟨false, false⟩ ⟨0, 0⟩ 0).forward .p1 = true
      ∧ (Channel.fresh ⟨false, true⟩ ⟨0, 0⟩ 0).forward .p1 = false
      ∧ (Channel.fresh ⟨true, false⟩ ⟨0, 0⟩ 0).forward .p2 = true := by decide

/-- A pulse of an idle hose is unattributed: with the factory Kq it joins the accumulator (R19, R47). -/
theorem test_unattributed :
    (after (.pulseEdge .h1 .p1 true 5) State.reset).chan.h1.unattributed.isSome = true := by decide

/-- The third seep pulse within 10 s, taken in PAUSED, raises LEAK though the same pulse brings the dead-stock
cut, which closes the slot and empties the window (R46, R121). -/
theorem test_leak_at_cut :
    (let s := { withSlot .h1 .paused with
        stock := State.reset.stock.set .a { State.reset.stock.a with book := 1, cut := false }
        hoseCtl := State.reset.hoseCtl.set .h1 { State.reset.hoseCtl.h1 with leakWindow := [0, 5] } }
     let s := s.modChan .h1 fun c => { c with txn := ⟨400, 0, 0, 0, 0, 0⟩ }
     let t := after (.pulseEdge .h1 .p1 true 10000) s
     (t.slotState .h1, t.hoseCtl.h1.pendingException, t.hoseCtl.h1.leakWindow, t.hoseCtl.h1.leakArmed))
      = (.closing, some ⟨.leak, 0⟩, [], false) := by decide

/-- A fault report in FAULT starts PR's 10-s retry timer afresh and sets the event again (R51, R52). -/
theorem test_fault_in_fault :
    (let s := { State.reset with
        now := 5000, panelReader := { ReaderState.off with link := .fault, retryTimer := some 12000 } }
     let t := after (.frontEndFault .pr) s
     (t.panelReader.link, t.panelReader.retryTimer, t.panelReader.lastEvent.map (·.kind)))
      = (.fault, some 15000, some .readerFault) := by decide

/-- A deadline passed while OPENING cancels the receipt (R139). -/
theorem test_openingLimit :
    ((after (.openingLimitExpiry .a) (withReceipt .a .opening)).receipts.a.state,
      (after (.openingLimitExpiry .a) (withReceipt .a .opening)).receipts.a.outcome)
      = (.closed, some .cancelled) := by decide

/-- CAL_SET_ALPHA while CAL_ENABLE is released is CAL_LOCKED (R176). -/
theorem test_calLocked :
    (after (.calSetAlpha .depot 1 900) State.reset).ports.depot.buffer = some ⟨.calLocked, []⟩ := by decide

/-- A command on the wrong port (R195). -/
theorem test_wrongPort :
    (after (.setPrice .panel 1 5) State.reset).ports.panel.buffer = some ⟨.wrongPort, []⟩ := by decide

/-- READ_EVENTS after reset on the Office port returns RESTARTED, bit 9 (R192, 11.4). -/
theorem test_readEvents :
    (after (.readEvents .office) State.reset).ports.office.buffer.map (·.payload.take 2)
      = some [0x02, 0x00] := by decide

/-- The entry to SAVED closes the drives of a slot in READY (R27, R187). -/
theorem test_entryToSaved :
    (after .entryToSaved (withSlot .h1 .ready)).supply = .saved
      ∧ (after .entryToSaved (withSlot .h1 .ready)).out.main.h1 = false := by decide

/-- The step on an empty queue idles, and takes the front of a queue (log 1). -/
theorem test_step_queue :
    step State.reset = .next State.reset
      ∧ (match step { State.reset with pending := [.calEnableAssert, .clockTick] } with
         | .next t => t.pending
         | _ => []) = [.clockTick] := by
  constructor
  · rfl
  · decide

/-! ### States that meet the hypotheses of the statements

One witness for each statement that has hypotheses, clause by clause, with values at the ends of the ranges
that its clauses name. -/

/-- No number is left to issue, so the free count is 0 (R155, R157). -/
def fullJournal : Journal := { State.reset.journal with next := 4294967296, oldest := 4294967296, cursor := 4294967296 }

def full : State := { State.reset with journal := fullJournal }

/-- One record, number 1, uncollected. -/
def oneRecord : State :=
  { State.reset with
    journal := { State.reset.journal with
      records := [⟨1, true, .adjustment ⟨.a, 5, 1, 5, 0⟩⟩], next := 2 } }

def saved : State := { State.reset with supply := .saved }

def unlocked (s : State := State.reset) : State := { s with switches := { s.switches with calEnable := true } }

def body : EntryBody :=
  { machine := 40117, account := 7, permitsA := true, permitsB := true, perFill := some 80000, daily := none
    usedElsewhere := 0, barred := false, hoursRequired := false, manualAllowed := true, neckCheck := false
    lastHours := none, maxJump := 0 }

/-- The way that holds machine 40,117 in `cached`. -/
def way : WayRef := ⟨machineSet 40117, 0⟩

def cached (pins : Nat) : State :=
  { State.reset with roster := State.reset.roster.putEntry way (some ⟨body, .roster, pins, none⟩) }

/-- A slot waits for hours under the cached entry, with product in A and nothing that refuses it. -/
def attempting (book : Int) : State :=
  { cached 1 with
    stock := State.reset.stock.set .a { State.reset.stock.a with book := book, cut := false }
    switches := { State.reset.switches with brakeReleased := false }
    slots := State.reset.slots.set .h1
      { Slot.fresh with state := .hoursWait, machine := some 40117, entry := some way, method := some .tag } }

/-- H2 waits in LOOKUP on the request for machine 40,117. -/
def waitingH2 : State :=
  { withSlot .h2 .lookup with
    roster := { State.reset.roster with
      requests := [⟨40117, (PerHose.all false).set .h2 true, some 8000⟩] } }

def holding (b : Bool) : State :=
  { withSlot .h1 .paused with
    slots := State.reset.slots.set .h1
      { Slot.fresh with
        state := .paused, authorised := some ⟨20000, .preset⟩
        holds := { HoldSet.empty with operatorHold := true, motion := b } } }

theorem witness_StepRunsFrontCommand : (State.reset.pending = []) := rfl

theorem witness_DrivesOpenOnlyWhenAllowed :
    (match exec (.clockTick) (attempting 1284000) with | .next _ => true | _ => false) = true
      ∧ (after .clockTick
          { withSlot .h1 .ready with stock := (attempting 1284000).stock }).out.main.get .h1 = true
      ∧ (after .clockTick (withReceipt .a .filling)).out.inlet.get .a = true := by decide

theorem witness_EncodeThenDecode :
    (Instr.loadRoster .office 4 (List.replicate 4 ⟨40117, 7, 3, 80000, 60000, 5000, 8, 0xFFFFFF, 0⟩)).wellFormed
        = true
      ∧ commandPort (.loadRoster .office 4 []) = some .office
      ∧ (encodeFrame (.loadRoster .office 4
          (List.replicate 4 ⟨40117, 7, 3, 80000, 60000, 5000, 8, 0xFFFFFF, 0⟩))).isSome = true := by decide

/-- A queue in front of each invariant's state. -/
def queued : State := { unlocked with pending := [.calSetAlpha .depot 1 900] }

theorem queued_steps : ∃ t, step queued = .next t := ⟨_, rfl⟩

theorem witness_JournalRunKept : queued.JournalInv ∧ ∃ t, step queued = .next t := by
  refine ⟨⟨⟨?_, ?_, ?_, ?_, ?_, ?_⟩, ⟨?_, ?_⟩, fun h => ?_, fun _ => ⟨fun h => ?_, fun c => ?_⟩⟩, queued_steps⟩
  all_goals first
    | decide
    | (cases h <;> rfl)
    | (cases c <;> rfl)

theorem witness_CutFlagKept : queued.CutInv ∧ ∃ t, step queued = .next t := by
  refine ⟨fun c => ⟨?_, fun _ h _ => ?_⟩, queued_steps⟩
  · cases c <;> decide
  · cases h <;> rfl

theorem witness_BindingKept : queued.BoundInv ∧ ∃ t, step queued = .next t :=
  ⟨fun h => by cases h <;> rfl, queued_steps⟩

theorem witness_MeterRangesKept : queued.MeterInv ∧ ∃ t, step queued = .next t := by
  refine ⟨⟨fun h => by cases h <;> rfl, fun h => ⟨?_, ?_, ⟨fun b => ?_, fun u e => ?_, ?_, ?_, ?_⟩⟩⟩, queued_steps⟩
  · cases h <;> decide
  · cases h <;> decide
  · cases h <;> exact absurd b (by decide)
  · cases h <;> exact absurd e (by simp [queued, unlocked, State.reset, Channel.fresh, PerHose.all, PerHose.get])
  · cases h <;> decide
  · cases h <;> decide
  · cases h <;> decide

theorem witness_CacheKept : queued.CacheInv ∧ ∃ t, step queued = .next t := by
  refine ⟨fun i w e h => ?_, queued_steps⟩
  have none_held : ∀ (i : Fin 16) (w : Fin 4), queued.roster.entryAt ⟨i, w⟩ = none := by decide
  rw [none_held i w] at h
  cases h

theorem witness_StockRangesKept : queued.StockInv ∧ ∃ t, step queued = .next t := by
  refine ⟨⟨fun c => ?_, fun c => ?_, fun h => ?_, fun h => ?_⟩, queued_steps⟩
  · cases c <;> exact ⟨by decide, by decide, by decide, by decide, by decide⟩
  · cases c <;> exact ⟨by decide, by decide, by decide, by decide, by decide⟩
  · cases h <;> exact ⟨by decide, by decide⟩
  · cases h <;> exact ⟨by decide, by decide⟩

theorem witness_PortTurnsCommandsAway :
    ((after (.stop .panel 1) State.reset).ports.get .panel).buffer ≠ none
      ∧ commandPort (.stop .panel 1) = some .panel
      ∧ (Instr.stop .office 1).wellFormed = true ∧ acceptedOn (.stop .office 1) .office = false
      ∧ (State.reset.ports.get .office).buffer = none
      ∧ acceptedOn (.stop .panel 1) .panel = true ∧ Instr.stop .panel 1 ≠ .readStatus .panel
      ∧ saved.supply = .saved ∧ (saved.ports.get .panel).buffer = none := by decide

theorem witness_ReadTransferShiftsResponse :
    (State.reset.ports.get .panel).buffer = none
      ∧ ((after (.stop .panel 1) State.reset).ports.get .panel).buffer = some ⟨.busy, []⟩
      ∧ (Response.payload ⟨.busy, []⟩).length < 256 := by decide

theorem witness_BadTransfersActOnNothing :
    (0x00#8 ≠ 0x57#8 ∧ 0x00#8 ≠ 0x52#8) ∧ (State.reset.ports.get .panel).buffer = none
      ∧ decodeFrame .panel [0x13] = .badFrame ∧ decodeFrame .panel [0xFF, 0x00] = .unknownCode
      ∧ ([] : List Byte).length < 2 ∧ 240 < (241 : Byte).toNat ∧ ([] : List Byte).length < (1 : Byte).toNat
      ∧ (fixedLength 0x13 = some 1 ∧ (2 : Byte).toNat ≤ 240 ∧ (2 : Byte).toNat ≠ 1)
      ∧ fixedLength 0xFF = none ∧ (0 : Byte).toNat = 0 ∧ (2 : Byte).toNat < 3
      ∧ ((25 : Byte).toNat ≤ (List.replicate 24 (0 : Byte)).length + 1 ∧ (4 : Byte).toNat ≤ 4
        ∧ (25 : Byte).toNat ≠ 1 + 23 * (4 : Byte).toNat)
      ∧ ((3 : Byte).toNat ≤ ([] : List Byte).length + 3 ∧ (8 : Byte).toNat ≤ 8
        ∧ (3 : Byte).toNat ≠ 3 + 6 * (8 : Byte).toNat) := by decide

theorem witness_FrameRunsItsCommand :
    (State.reset.ports.get .depot).buffer = none
      ∧ decodeFrame .depot [0x31, 0x01, 0x00] = .command (.closeReceipt .depot 0) := by decide

theorem witness_ReadsAnswerAndChangeNothing :
    (State.reset.takes .panel ∧ hoseOf 3 = some .h3) ∧ (State.reset.takes .office ∧ accountOf 31 = some 31)
      ∧ (State.reset.takes .depot ∧ compOf 1 = some .b ∧ (31 : Byte).toNat ≤ 31)
      ∧ (saved.ports.get .office).buffer = none := by decide

theorem witness_LayoutWidths :
    (State.reset.nozzleReader.get .h3).nextPages.length ≤ 3
      ∧ (State.reset.gauge.get .b).history.length ≤ 10 := by decide

theorem witness_EventFlagsReadAndMasked :
    State.reset.takes .depot ∧ (2 ^ flagCount .depot ≤ (256 : BitVec 16).toNat)
      ∧ (255 : BitVec 16).toNat < 2 ^ flagCount .depot := by decide

theorem witness_IdentifyTypedAndTurnedAway :
    (withSlot .h1 .ident).takes .panel ∧ hoseOf 1 = some .h1 ∧ (withSlot .h1 .ident).slotState .h1 = .ident
      ∧ (withSlot .h1 .ident).pendingTag.get .h1 = false ∧ machineInRange (16777214 : BitVec 24).toNat = true
      ∧ (withSlot .h1 .ident).roster.findWay 16777214 = none
      ∧ (∀ q ∈ (withSlot .h1 .ident).roster.requests, q.machine ≠ 16777214)
      ∧ (withSlot .h1 .ident).roster.requests.length < 3
      ∧ State.reset.slotState .h1 ≠ .ident
      ∧ (15 : BitVec 24).toNat = (15 : Fin 16).val
      ∧ (withSlot .h1 .ident).roster.quickCodes.get 15 = none := by decide

theorem witness_VerdictIsLeastCandidate :
    (match (attempting 1284000).verdict .h1 ⟨body, .roster, 1, none⟩ with | .ok v => v.volume | .error _ => 0)
        = 80000 := by decide

theorem witness_RefusalReturnsToIdent :
    (attempting 99).slotEntry .h1 = some ⟨body, .roster, 1, none⟩
      ∧ (match (attempting 99).verdict .h1 ⟨body, .roster, 1, none⟩ with | .ok _ => none | .error r => some r)
        = some (.limit .stockAvailable) := by decide

theorem witness_AuthorisationLatches :
    (attempting 100).slotEntry .h1 = some ⟨body, .roster, 1, none⟩
      ∧ (match (attempting 100).verdict .h1 ⟨body, .roster, 1, none⟩ with | .ok v => v.volume | .error _ => 0)
        = 100
      ∧ (attempting 100).depot.closeAhead ≤ 50
      ∧ ((attempting 100).roster.usageOf 40117).isSome = false := by decide

/-- The Day Usage List is full and has no entry of machine 40,117 (R86). -/
def listed : State :=
  { attempting 100 with
    roster := { (attempting 100).roster with usage := List.replicate 128 ⟨1, 0, 0, none⟩ } }

set_option maxRecDepth 4000 in
theorem witness_AuthorisationLatches_full :
    (listed.roster.usageOf 40117).isSome = false ∧ 128 ≤ listed.roster.usage.length
      ∧ listed.slotEntry .h1 = some ⟨body, .roster, 1, none⟩ ∧ listed.supply = .normal
      ∧ (match listed.verdict .h1 ⟨body, .roster, 1, none⟩ with | .ok v => v.volume | .error _ => 0) = 100 := by
  refine ⟨?_, ?_, by decide, rfl, by decide⟩
  · simp [listed, Roster.usageOf]
  · simp [listed]

theorem witness_PresetAndHoursEntered :
    (withSlot .h1 .lookup).takes .panel ∧ hoseOf 1 = some .h1 ∧ 15 < (16 : Byte).toNat ∧ (15 : Byte).toNat ≤ 15
      ∧ ((withSlot .h1 .lookup).slotState .h1).waiting = true ∧ (State.reset.slotState .h1).waiting = false
      ∧ 9999999 < (10000000 : BitVec 24).toNat ∧ (9999999 : BitVec 24).toNat ≤ 9999999
      ∧ (attempting 1284000).takes .panel ∧ (attempting 1284000).slotState .h1 = .hoursWait := by decide

theorem witness_HoldAndResume :
    (withSlot .h1 .slowing).takes .panel ∧ hoseOf 1 = some .h1
      ∧ ((withSlot .h1 .slowing).slotState .h1).delivers = true
      ∧ ((withSlot .h1 .slowing).slots.get .h1).holds = HoldSet.empty
      ∧ (State.reset.slotState .h1).running = false
      ∧ (holding false).slotState .h1 = .paused
      ∧ ((holding false).slots.get .h1).holds = { HoldSet.empty with operatorHold := true }
      ∧ (holding false).atSlowThreshold .h1 = false ∧ (holding false).atCloseThreshold .h1 = false
      ∧ ((holding true).slots.get .h1).holds.operatorHold = true
      ∧ ((holding true).slots.get .h1).holds.motion = true := by decide

theorem witness_StopCloses :
    State.reset.takes .panel ∧ hoseOf 0 = none ∧ hoseOf 4 = none ∧ hoseOf 3 = some .h3
      ∧ ((withSlot .h3 .paused).slotState .h3).running = true ∧ (withSlot .h3 .closing).slotState .h3 = .closing
      ∧ (State.reset.slotState .h3).authorised = false := by decide

/-- H1's accumulator holds product. -/
def seeped (s : State) : State :=
  { s with hoseCtl := s.hoseCtl.set .h1 { s.hoseCtl.get .h1 with accumulator := ⟨1, 0, some 0, some 0⟩ } }

theorem witness_AckExceptionWritesOut :
    State.reset.takes .panel ∧ hoseOf 1 = some .h1 ∧ (State.reset.hoseCtl.get .h1).accumulator.gross = 0
      ∧ (State.reset.hoseCtl.get .h1).accumulator.net = 0
      ∧ 0 < ((seeped full).hoseCtl.get .h1).accumulator.gross ∧ (seeped full).takes .panel
      ∧ (seeped full).journal.free = 0
      ∧ 0 < ((seeped State.reset).hoseCtl.get .h1).accumulator.gross ∧ 0 < (seeped State.reset).journal.free := by
  decide

theorem witness_OperatorLogsOff :
    ({ State.reset with operator := some 5, logoffTimer := some 9 }).takes .panel
      ∧ ({ State.reset with operator := some 5, logoffTimer := some 9 }).operator = some 5
      ∧ ({ State.reset with operator := some 5, logoffTimer := some 9 }).logoffTimer.isSome = true
      ∧ State.reset.operator = none := by decide

theorem witness_RestartReinitialises :
    State.reset.takes .panel ∧ State.reset.restartable = true ∧ (withSlot .h1 .closing).restartable = false
      ∧ (withReceipt .b .settling).restartable = false := by decide

/-- H1 waits for an override of machine 40,117. -/
def overriding : State :=
  { withSlot .h1 .overrideWait with
    slots := State.reset.slots.set .h1 { Slot.fresh with state := .overrideWait, machine := some 40117 } }

theorem witness_LoadRosterFillsVictim :
    State.reset.takes .office
      ∧ entryOf ⟨0, 7, 3, 80000, 60000, 5000, 8, 0xFFFFFF, 0⟩ = none
      ∧ (entryOf ⟨40117, 31, 3, 80000, 60000, 5000, 8, 0xFFFFFF, 0⟩).map (·.machine) = some 40117
      ∧ State.reset.roster.findWay 40117 = none ∧ (∀ q ∈ State.reset.roster.requests, q.machine ≠ 40117)
      ∧ State.reset.slotState .h1 ≠ .overrideWait ∧ State.reset.slotState .h2 ≠ .overrideWait
      ∧ State.reset.slotState .h3 ≠ .overrideWait
      ∧ ((cached 0).takes .office ∧ (cached 0).roster.findWay 40117 = some way
        ∧ ((cached 0).roster.entryAt way).map (·.pins) = some 0
        ∧ ((cached 1).roster.entryAt way).map (·.pins) = some 1)
      ∧ (waitingH2.takes .office ∧ waitingH2.slotState .h2 = .lookup
        ∧ waitingH2.roster.waitsOn 40117 .h2 = true ∧ waitingH2.roster.findWay 40117 = none
        ∧ waitingH2.slotState .h1 ≠ .lookup ∧ waitingH2.slotState .h3 ≠ .lookup
        ∧ (waitingH2.slots.get .h2).hours = none ∧ (waitingH2.slots.get .h2).method ≠ some .override
        ∧ (entryOf ⟨40117, 31, 3, 80000, 60000, 5000, 2, 0xFFFFFF, 0⟩).map (·.hoursRequired) = some true
        ∧ (entryOf ⟨40117, 31, 3, 80000, 60000, 5000, 8, 0xFFFFFF, 0⟩).map (·.hoursRequired) = some false)
      ∧ (overriding.takes .office ∧ overriding.slotState .h1 = .overrideWait
        ∧ (overriding.slots.get .h1).machine = some 40117 ∧ overriding.roster.findWay 40117 = none
        ∧ overriding.slotState .h2 ≠ .overrideWait ∧ overriding.slotState .h3 ≠ .overrideWait) := by decide

theorem witness_VictimIsInvalidOrUnpinned :
    CacheSet.empty.ways.get 3 = none
      ∧ (let c : CacheSet := { CacheSet.empty with ways := Vector.replicate 4 (some ⟨body, .roster, 0, none⟩) }
         (∀ w, c.ways.get w ≠ none) ∧ c.pinnedWay 3 = false) := by decide

theorem witness_DropRosterInvalidatesOrStages :
    (cached 0).takes .office ∧ machineInRange (40117 : BitVec 24).toNat = true
      ∧ (cached 0).roster.findWay 40117 = some way
      ∧ (cached 0).roster.entryAt way = some ⟨body, .roster, 0, none⟩
      ∧ (cached 2).roster.entryAt way = some ⟨body, .roster, 2, none⟩
      ∧ (cached 0).slotState .h1 = .idle ∧ (cached 0).slotState .h2 = .idle ∧ (cached 0).slotState .h3 = .idle
      ∧ ((cached 0).slots.get .h1).entry ≠ some way ∧ ((cached 0).slots.get .h2).entry ≠ some way
      ∧ ((cached 0).slots.get .h3).entry ≠ some way := by decide

theorem witness_NotOnRosterRefusesWaiter :
    waitingH2.takes .office ∧ machineInRange (40117 : BitVec 24).toNat = true
      ∧ waitingH2.roster.findWay 40117 = none ∧ waitingH2.roster.waitsOn 40117 .h2 = true
      ∧ waitingH2.slotState .h2 = .lookup ∧ (waitingH2.slots.get .h2).entry = none
      ∧ (waitingH2.slotState .h1).waiting = false ∧ (waitingH2.slotState .h3).waiting = false := by decide

theorem witness_QuickCodeAndPriceReplaced :
    State.reset.takes .office ∧ 15 < (16 : Byte).toNat ∧ 16777214 < (16777215 : BitVec 24).toNat
      ∧ (15 : Byte).toNat = (15 : Fin 16).val ∧ (16777214 : BitVec 24).toNat ≤ 16777214
      ∧ (0 : BitVec 24).toNat ≤ 16777214
      ∧ productOf 0 = none ∧ productOf 3 = none ∧ 99999 < (100000 : BitVec 24).toNat ∧ productOf 2 = some .b
      ∧ (99999 : BitVec 24).toNat ≤ 99999 := by decide

theorem witness_AccountsSetAndReset :
    State.reset.takes .office ∧ accountOf 31 = some 31 ∧ accountOf 32 = none
      ∧ (100000000 : BitVec 32) ≠ 0xFFFFFFFF#32 ∧ 99999999 < (100000000 : BitVec 32).toNat
      ∧ (99999999 : BitVec 32).toNat ≤ 99999999
      ∧ State.reset.accountBusy 31 = false
      ∧ ({ withSlot .h1 .ready with
          slots := State.reset.slots.set .h1 { Slot.fresh with state := .ready, account := some 31 } }).accountBusy 31
        = true := by decide

theorem oneRecord_sound : oneRecord.journal.sound := by
  refine ⟨?_, ?_, ?_, ?_, ?_, ?_⟩ <;> decide

theorem witness_ReadNextReturnsRecords : oneRecord.takes .office ∧ oneRecord.journal.sound :=
  ⟨by decide, oneRecord_sound⟩

theorem witness_ReadFromSetsCursor :
    oneRecord.takes .office ∧ oneRecord.journal.sound ∧ (0 : BitVec 32).toNat < oneRecord.journal.oldest
      ∧ oneRecord.journal.oldest ≤ (1 : BitVec 32).toNat ∧ (1 : BitVec 32).toNat < oneRecord.journal.next
      ∧ oneRecord.journal.next ≤ (2 : BitVec 32).toNat :=
  ⟨by decide, oneRecord_sound, by decide, by decide, by decide, by decide⟩

theorem witness_CollectedReleasesRecords :
    oneRecord.takes .office ∧ oneRecord.journal.sound ∧ oneRecord.journal.next ≤ (2 : BitVec 32).toNat
      ∧ (0 : BitVec 32).toNat < oneRecord.journal.oldest
      ∧ (1 : BitVec 32).toNat < oneRecord.journal.next ∧ oneRecord.journal.oldest ≤ (1 : BitVec 32).toNat :=
  ⟨by decide, oneRecord_sound, by decide, by decide, by decide, by decide⟩

theorem witness_AdjustStockMovesBook :
    State.reset.takes .office ∧ compOf 0 = some .a ∧ (0 : BitVec 32).toInt = 0
      ∧ 99999999 < (100000000 : BitVec 32).toInt.natAbs ∧ (99999999 : BitVec 32).toInt ≠ 0
      ∧ (99999999 : BitVec 32).toInt.natAbs ≤ 99999999
      ∧ ((State.reset.stock.get .a).book + (99999999 : BitVec 32).toInt).natAbs ≤ 2 ^ 39
      ∧ full.journal.free = 0 ∧ full.takes .office ∧ 0 < State.reset.journal.free
      ∧ (State.reset.stock.get .a).cut = true
      ∧ (0xFFFFFFFF : BitVec 32).toInt < 0 := by decide

theorem witness_ClockAndRollover :
    State.reset.takes .office ∧ State.reset.clock.counter < 4294967295
      ∧ ({ State.reset with clock := ⟨86399, true⟩ }).clock.valid = true
      ∧ ({ State.reset with clock := ⟨86399, true⟩ }).roster.stamp
        < (86399 + 1 + 86400 - 3600 * State.reset.roster.site.boundaryHour) / 86400
      ∧ State.reset.clock.valid = false := by decide

theorem witness_SetSiteStoresAll :
    State.reset.takes .office ∧ 23 < (24 : Byte).toNat ∧ (99 : BitVec 24).toNat < 100
      ∧ 999999 < (1000000 : BitVec 24).toNat ∧ (31 : Byte).toNat = (31 : Fin 32).val ∧ (23 : Byte).toNat ≤ 23
      ∧ 100 ≤ (100 : BitVec 24).toNat ∧ (999999 : BitVec 24).toNat ≤ 999999 ∧ (1 : Byte).toNat ≤ 1
      ∧ State.reset.clock.valid = false := by decide

theorem witness_ReceiptsOpenCloseAbort :
    State.reset.takes .depot ∧ compOf 0 = some .a ∧ (0 : BitVec 32).toNat = 0
      ∧ 99999999 < (100000000 : BitVec 32).toNat ∧ 1 ≤ (1 : BitVec 32).toNat
      ∧ (99999999 : BitVec 32).toNat ≤ 99999999 ∧ (State.reset.receipts.get .a).state = .closed
      ∧ 0 < State.reset.journal.free ∧ full.takes .depot ∧ full.journal.free = 0
      ∧ ((withReceipt .a .filling).receipts.get .a).state = .filling
      ∧ ((withReceipt .a .settling).receipts.get .a).state = .settling
      ∧ ((withReceipt .a .opening).receipts.get .a).state = .opening := by decide

theorem witness_SetDepotStoresAll :
    State.reset.takes .depot ∧ 1 < (2 : Byte).toNat ∧ (1 : Byte).toNat ≤ 1
      ∧ ¬ 20 ≤ (19 : BitVec 16).toNat
      ∧ ((99999999 : BitVec 32).toNat ≤ 99999999 ∧ 20 ≤ (20 : BitVec 16).toNat
        ∧ (2000 : BitVec 16).toNat ≤ 2000 ∧ (50 : Byte).toNat ≤ 50 ∧ (30 : Byte).toNat ≤ 30) := by decide

/-- CAL_ENABLE is asserted and a table of two ascending points is staged for B. -/
def staged : State :=
  { unlocked with cal := { State.reset.cal with staged := some ⟨.b, [⟨100, 3000⟩, ⟨38500, 1200000⟩]⟩ } }

theorem witness_CalibrationWritesRecorded :
    State.reset.takes .depot ∧ State.reset.switches.calEnable = false ∧ (unlocked full).takes .depot
      ∧ (unlocked full).switches.calEnable = true ∧ (unlocked full).journal.free = 0
      ∧ unlocked.takes .depot ∧ unlocked.switches.calEnable = true ∧ 0 < unlocked.journal.free
      ∧ (hoseOf 1 = some .h1 ∧ unlocked.slotState .h1 = .idle ∧ 200 ≤ (200 : BitVec 16).toNat
        ∧ (20000 : BitVec 16).toNat ≤ 20000)
      ∧ (productOf 1 = some .a ∧ unlocked.compIdle .a = true ∧ (2000 : BitVec 16).toNat ≤ 2000)
      ∧ (compOf 1 = some .b ∧ staged.compIdle .b = true ∧ (staged.receipts.get .b).state = .closed
        ∧ staged.commitOk .b = true ∧ staged.takes .depot)
      ∧ 1 ≤ (1 : BitVec 16).toNat ∧ (450 : BitVec 16).toNat ≤ 450
      ∧ (1000000 : BitVec 32).toNat ≤ 1000000
      ∧ (hoseOf 0 = none ∧ productOf 0 = none ∧ compOf 2 = none)
      ∧ (¬ 200 ≤ (199 : BitVec 16).toNat ∧ ¬ (20001 : BitVec 16).toNat ≤ 20000
        ∧ ¬ (2001 : BitVec 16).toNat ≤ 2000 ∧ ¬ 1 ≤ (0 : BitVec 16).toNat
        ∧ ¬ (451 : BitVec 16).toNat ≤ 450 ∧ ¬ (100000000 : BitVec 32).toNat ≤ 99999999
        ∧ ¬ (1000001 : BitVec 32).toNat ≤ 1000000)
      ∧ (unlocked (withSlot .h1 .closing)).takes .depot
      ∧ (unlocked (withSlot .h1 .closing)).slotState .h1 ≠ .idle
      ∧ (unlocked (withSlot .h1 .closing)).compIdle .a ≠ true
      ∧ ((unlocked (withReceipt .a .settling)).receipts.get .a).state ≠ .closed
      ∧ ¬ 2 ≤ (unlocked.cal.stagedPoints .b).length
      ∧ (let s := { staged with journal := fullJournal }
         s.takes .depot ∧ s.journal.free = 0 ∧ 2 ≤ (s.cal.stagedPoints .b).length
           ∧ ascends (s.cal.stagedPoints .b) = true) := by decide

theorem witness_StrapLoadStages :
    State.reset.takes .depot ∧ State.reset.switches.calEnable = false ∧ compOf 1 = some .b
      ∧ 1 ≤ (1 : Byte).toNat ∧ (8 : Byte).toNat ≤ 8
      ∧ (List.replicate 8 (⟨40000, 99999999⟩ : WirePoint)).length = (8 : Byte).toNat
      ∧ (List.replicate 8 (⟨40000, 99999999⟩ : WirePoint)).all pointInRange = true
      ∧ unlocked.takes .depot ∧ unlocked.switches.calEnable = true ∧ unlocked.cal.staged = none
      ∧ (0 : Byte).toNat = 0 ∧ (1 : Byte).toNat = 1
      ∧ staged.cal.staged.map (·.comp) = some .b
      ∧ 32 < (List.replicate 25 (⟨1, 1⟩ : StrapPoint)).length + 8
      ∧ (staged.cal.stagedPoints .b).length + 8 ≤ 32 := by decide

/-- A bound channel of a slot in FLOWING. -/
def flowing : State :=
  { withSlot .h1 .flowing with
    chan := State.reset.chan.set .h1
      { State.reset.chan.get .h1 with bound := true, txn := ⟨2400, 600, 999993, 5, 999989, 5⟩ } }

theorem witness_TransactionPulseMeters :
    flowing.supply = .normal ∧ (flowing.chan.get .h1).bound = true
      ∧ (flowing.slotState .h1).authorised = true ∧ flowing.slotState .h1 ≠ .paused
      ∧ (flowing.chan.get .h1).level .p1 = false ∧ (flowing.chan.get .h1).lastChanged ≠ some .p1
      ∧ (flowing.chan.get .h1).forward .p1 = true ∧ (flowing.chan.get .h1).debt = 0
      ∧ (flowing.chan.get .h1).txn.gross < 999994 ∧ (flowing.chan.get .h1).txn.net < 999990
      ∧ (flowing.hoseCtl.get .h1).overrunReported = false
      ∧ (flowing.slots.get .h1).authorisedVolume + 200 < (flowing.chan.get .h1).txn.net := by decide

/-- A slot in READY with an authorised volume, and two takings in its flow window. -/
def ready (volume : Nat) : State :=
  { withSlot .h1 .ready with
    now := 1000
    slots := State.reset.slots.set .h1
      { Slot.fresh with state := .ready, authorised := some ⟨volume, .preset⟩ }
    hoseCtl := State.reset.hoseCtl.set .h1
      { State.reset.hoseCtl.get .h1 with flowWindow := [0, 500], slowBand := 200, closeAhead := 10 } }

theorem witness_FlowSenseAndComparison :
    (ready 20000).slotState .h1 = .ready ∧ ((ready 20000).hoseCtl.get .h1).flowWindow = [0, 500]
      ∧ (ready 20000).now ≤ 0 + 1000
      ∧ (((ready 10).slotState .h1).delivers = true
        ∧ ((ready 10).slots.get .h1).authorisedVolume
          ≤ ((ready 10).chan.get .h1).txn.net + ((ready 10).hoseCtl.get .h1).closeAhead)
      ∧ (((ready 200).chan.get .h1).txn.net + ((ready 200).hoseCtl.get .h1).closeAhead
          < ((ready 200).slots.get .h1).authorisedVolume
        ∧ ((ready 200).slots.get .h1).authorisedVolume
          ≤ ((ready 200).chan.get .h1).txn.net + ((ready 200).hoseCtl.get .h1).slowBand) := by decide

/-- The state right after reset with a change to the channel of H1. -/
def withChan (f : Channel → Channel) : State := State.reset.modChan .h1 f

theorem witness_OtherEdges :
    (State.reset.chan.get .h1).level .p1 = false ∧ State.reset.supply = .normal ∧ saved.supply = .saved
      ∧ ((withChan fun c => { c with p1 := true }).chan.get .h1).level .p1 = true
      ∧ ((withChan fun c => { c with lastChanged := some .p1, phaseErrors := 8 }).chan.get .h1).lastChanged
        = some .p1
      ∧ ((withChan fun c => { c with p2 := true }).chan.get .h1).forward .p1 = false
      ∧ ((withChan fun c => { c with p2 := true }).chan.get .h1).debt < debtCap (State.reset.kqInEffect .h1)
      ∧ debtCap ((withChan fun c => { c with p2 := true, debt := 2000 }).kqInEffect .h1)
        ≤ ((withChan fun c => { c with p2 := true, debt := 2000 }).chan.get .h1).debt
      ∧ (State.reset.chan.get .h1).excessReported = false
      ∧ ((withChan fun c => { c with p2 := true, debt := 2000, excessReported := true }).chan.get
          .h1).excessReported = true
      ∧ (State.reset.chan.get .h1).forward .p1 = true ∧ (State.reset.chan.get .h1).lastChanged ≠ some .p1
      ∧ 0 < ((withChan fun c => { c with debt := 1 }).chan.get .h1).debt
      ∧ (State.reset.chan.get .h1).debt = 0 ∧ (State.reset.chan.get .h1).bound = false
      ∧ (withSlot .h1 .paused).slotState .h1 = .paused
      ∧ (let s := withSlot .h1 .flowing
         let s := s.modChan .h1 fun c => { c with txn := ⟨2400, 0, 999994, 0, 0, 0⟩ }
         999994 ≤ (s.chan.get .h1).txn.gross ∧ (s.chan.get .h1).bound = true
           ∧ (s.slotState .h1).authorised = true ∧ (s.slotState .h1).delivers = true
           ∧ (s.chan.get .h1).ceilingReported = false ∧ (s.chan.get .h1).debt = 0)
      ∧ ((State.reset.hoseCtl.get .h1).leakArmed = true ∧ (State.reset.slotState .h1).authorised = false) := by decide

theorem witness_TemperatureStates :
    ((withChan fun c => c.validSample 601 (some 5)).chan.get .h1).tempState = .valid
      ∧ ((withChan fun c => c.validSample 601 (some 5)).chan.get .h1).lastTemp.isSome = true
      ∧ (State.reset.chan.get .h1).absenceTimer.isSome = true
      ∧ ((withChan fun c => { c with tempState := .holding, holdTimer := some 5 }).chan.get .h1).tempState
        = .holding
      ∧ ((withChan fun c => { c with tempState := .holding, holdTimer := some 5 }).chan.get
          .h1).holdTimer.isSome = true := by decide

/-- H1's nozzle is out of its boot. -/
def lifted (s : State) : State :=
  { s with switches := { s.switches with nozzleIn := s.switches.nozzleIn.set .h1 false } }

theorem witness_NozzleEvents :
    State.reset.switches.nozzleIn.get .h1 = true ∧ State.reset.supply = .normal
      ∧ (State.reset.hoseCtl.get .h1).liftArmed = true ∧ State.reset.slotState .h1 = .idle
      ∧ saved.switches.nozzleIn.get .h1 = true ∧ saved.supply = .saved
      ∧ (lifted saved).switches.nozzleIn.get .h1 = false ∧ (lifted saved).supply = .saved
      ∧ (lifted State.reset).switches.nozzleIn.get .h1 = false ∧ (lifted State.reset).slotState .h1 = .idle
      ∧ ((lifted (withSlot .h1 .paused)).slotState .h1).running = true
      ∧ ((lifted (withSlot .h1 .hoursWait)).slotState .h1).waiting = true := by decide

theorem witness_EmergencyStop :
    (withSlot .h1 .flowing).switches.estop = false ∧ (withSlot .h1 .flowing).supply = .normal
      ∧ ((withSlot .h1 .flowing).slotState .h1).running = true
      ∧ ((withReceipt .b .filling).receipts.get .b).state = .filling
      ∧ saved.switches.estop = false ∧ saved.supply = .saved
      ∧ ({ State.reset.switches with estop := true }).estop = true := by decide

theorem witness_ParkBrake :
    (withSlot .h1 .ready).switches.brakeReleased = false ∧ (withSlot .h1 .ready).supply = .normal
      ∧ ((withSlot .h1 .ready).slots.get .h1).holds.isEmpty = true
      ∧ ((withSlot .h1 .ready).slotState .h1).delivers = true ∧ saved.supply = .saved
      ∧ ({ (holding true).switches with brakeReleased := true }).brakeReleased = true
      ∧ ((holding true).slots.get .h1).holds.motion = true ∧ (holding true).slotState .h1 = .paused
      ∧ ((holding true).gauge.get .a).history.length < 10 := by decide

/-- A slot with its hose timers and its restore window running. -/
def timed (st : SlotState) : State :=
  { withSlot .h1 st with
    hoseCtl := State.reset.hoseCtl.set .h1
      { State.reset.hoseCtl.get .h1 with
        flowStop := some 9, noFlow := some 9, pause := some 9, settle := some 9 }
    tracking := State.reset.tracking.set .h1 ⟨true, 2, some 9⟩
    slots := State.reset.slots.set .h1
      { Slot.fresh with state := st, holds := { HoldSet.empty with tagLost := true } } }

theorem witness_HoseTimerExpiries :
    ((timed .flowing).hoseCtl.get .h1).flowStop.isSome = true ∧ (timed .flowing).slotState .h1 = .flowing
      ∧ ((timed .flowing).hoseCtl.get .h1).noFlow.isSome = true
      ∧ ((timed .flowing).slotState .h1).delivers = true
      ∧ ((timed .paused).hoseCtl.get .h1).pause.isSome = true ∧ (timed .paused).slotState .h1 = .paused
      ∧ ((timed .paused).tracking.get .h1).restoreWindow.isSome = true
      ∧ ((timed .paused).slots.get .h1).holds.tagLost = true := by decide

/-- A slot in CLOSING whose settle runs and whose journal slot is reserved. -/
def settling : State :=
  { timed .closing with
    journal := { State.reset.journal with
      register := State.reset.journal.register.put (.hose .h1) (some true) } }

theorem witness_CompletionWritesRecord :
    (settling.hoseCtl.get .h1).settle.isSome = true ∧ settling.slotState .h1 = .closing
      ∧ settling.journal.register.hoses.get .h1 = some true ∧ (settling.chan.get .h1).bound = true
      ∧ (let s := { settling with
          roster := (cached 2).roster
          slots := settling.slots.set .h1
            { settling.slots.get .h1 with machine := some 40117, account := some 7, entry := some way } }
         (s.slots.get .h1).machine = some 40117 ∧ (s.slots.get .h1).account = some 7
           ∧ (s.slots.get .h1).entry = some way ∧ (s.roster.entryAt way).map (·.pins) = some 2
           ∧ s.slotState .h1 = .closing)
      ∧ (settling.slots.get .h1).entry = none := by decide

/-- A reader of H1 in a link state with its timers running. -/
def reading (l : LinkState) (misses : Nat) : State :=
  { withSlot .h1 .ident with
    nozzleReader := State.reset.nozzleReader.set .h1
      { ReaderState.off with
        link := l, stableTimer := some 9, qualifyLimit := some 9, pollTimer := some 9, misses := misses } }

theorem witness_ReaderStates :
    (reading .qualifying 0).supply = .normal
      ∧ ((reading .qualifying 0).reader (.nr .h1)).link = .qualifying
      ∧ ((reading .qualifying 0).reader (.nr .h1)).stableTimer.isSome = true
      ∧ ((reading .qualifying 0).reader (.nr .h1)).qualifyLimit.isSome = true
      ∧ ((reading .tagPresent 0).reader (.nr .h1)).link = .tagPresent
      ∧ ((reading .tagPresent 0).reader (.nr .h1)).pollTimer.isSome = true
      ∧ (let s := { State.reset with panelReader := { ReaderState.off with link := .fault, retryTimer := some 9 } }
         s.supply = .normal ∧ (s.reader .pr).link = .fault ∧ (s.reader .pr).retryTimer.isSome = true)
      ∧ ({ State.reset with supervisor := some 9 }).supervisor.isSome = true
      ∧ ((reading .fault 0).reader (.nr .h1)).link ≠ .off ∧ ((reading .fault 0).reader (.nr .h1)).link = .fault
      ∧ ((reading .off 0).reader (.nr .h1)).link = .off := by decide

/-- A machine's base page with two next pages, and one with none (11.5). -/
def machinePage (pages : Byte) : BasePage := ⟨pages, 40117⟩

/-- A tracked slot in a state, with `misses` misses, the nozzle reader in a link state. -/
def tracked (st : SlotState) (l : LinkState) (misses : Nat) : State :=
  { reading l 0 with
    tracking := State.reset.tracking.set .h1 ⟨true, misses, none⟩
    slots := State.reset.slots.set .h1 { Slot.fresh with state := st, machine := some 21 } }

theorem witness_TagPolls :
    (acceptedTag .pr ⟨0x40, 65535⟩ = some ⟨.operator, 65535⟩
        ∧ ({ State.reset with panelReader := { ReaderState.off with link := .listening } }).panelReader.link
          = .listening)
      ∧ (acceptedTag (.nr .h1) (machinePage 2) = some ⟨.machine, 40117⟩
        ∧ ((reading .listening 0).nozzleReader.get .h1).link = .listening
        ∧ (reading .listening 0).slotState .h1 = .ident ∧ (reading .listening 0).pendingTag.get .h1 = false
        ∧ ((reading .listening 0).tracking.get .h1).running = false
        ∧ 0 < pageNextCount (machinePage 2) ∧ pageNextCount (machinePage 0) = 0
        ∧ acceptedTag (.nr .h1) (machinePage 0) = some ⟨.machine, 40117⟩)
      ∧ (((tracked .flowing .listening 0).tracking.get .h1).running = true
        ∧ ((tracked .flowing .listening 0).slotState .h1).running = true
        ∧ ((tracked .flowing .listening 0).slots.get .h1).machine ≠ some 40117)
      ∧ (((reading .tagPresent 2).nozzleReader.get .h1).link = .tagPresent
        ∧ ((reading .tagPresent 2).nozzleReader.get .h1).fetchLeft = 0)
      ∧ (((tracked .ready .qualifying 1).tracking.get .h1).misses < 2
        ∧ ((tracked .ready .qualifying 1).nozzleReader.get .h1).link = .qualifying
        ∧ ((tracked .ready .fault 2).tracking.get .h1).misses = 2
        ∧ ((tracked .ready .fault 2).slots.get .h1).holds.isEmpty = true
        ∧ ((tracked .ready .fault 2).slotState .h1).delivers = true)
      ∧ (acceptedTag .pr ⟨0x80, 5⟩ = some ⟨.supervisor, 5⟩
        ∧ (let s := { overriding with panelReader := { ReaderState.off with link := .listening } }
           s.supply = .normal ∧ s.panelReader.link = .listening ∧ s.slotState .h1 = .overrideWait
             ∧ s.slotState .h2 ≠ .overrideWait ∧ s.slotState .h3 ≠ .overrideWait
             ∧ (s.slots.get .h1).machine = some 40117 ∧ s.roster.findWay 40117 = none)
        ∧ (let s := { overriding with roster := (cached 0).roster }
           s.roster.findWay 40117 = some way ∧ s.slotState .h1 = .overrideWait)
        ∧ State.reset.slotState .h1 ≠ .overrideWait) := by decide

/-- A slot before READY with both its timers running. -/
def waiting (st : SlotState) : State :=
  { State.reset with
    slots := State.reset.slots.set .h1
      { Slot.fresh with state := st, identTimer := some 9, overrideTimer := some 9 } }

theorem witness_SlotTimerExpiries :
    (((waiting .hoursWait).slots.get .h1).identTimer.isSome = true ∧ (waiting .hoursWait).slotState .h1 = .hoursWait)
      ∧ (((waiting .overrideWait).slots.get .h1).overrideTimer.isSome = true
        ∧ (waiting .overrideWait).slotState .h1 = .overrideWait)
      ∧ (waitingH2.supply = .normal ∧ waitingH2.supervisor = none
        ∧ (waitingH2.roster.requests.find? fun q => q.machine == 40117).map (·.waiters.get .h2) = some true
        ∧ waitingH2.slotState .h2 = .lookup ∧ waitingH2.slotState .h1 ≠ .lookup
        ∧ waitingH2.slotState .h3 ≠ .lookup) := by decide

/-- A VALID gauge with its frame and its timers; the record's qualification and spacing as given. -/
def gauged (qualification spacing : Timer) : State :=
  { State.reset with
    tilt := ⟨some ⟨0, 0⟩, some 9⟩
    gauge := State.reset.gauge.set .a
      { Gauge.fresh with
        state := .valid, latest := some ⟨1500, 150, true⟩, absenceTimer := some 9
        history := List.replicate 10 1500, lastValid := some ⟨1500, 614056, 614056, 150, false, 0⟩
        validQualification := qualification, spacing := spacing } }

/-- The same bowser in travel: the brake released and the level history empty. -/
def travelling : State :=
  { gauged none none with
    switches := { State.reset.switches with brakeReleased := true }
    gauge := (gauged none none).gauge.set .a
      { (gauged none none).gauge.get .a with state := .moving, history := [] } }

/-- 6.4, R125: frames taken in travel leave the history empty, and the brake set after it finds UNSTABLE. -/
theorem test_travel_keeps_history_empty :
    ((after (.probeFrame .a 12345 150 true) travelling).gauge.get .a).history = []
      ∧ ((after .parkBrakeSet (after (.probeFrame .a 12345 150 true) travelling)).gauge.get .a).state = .unstable := by
  decide

theorem witness_GaugeEvents :
    ((gauged none none).gauge.get .a).absenceTimer.isSome = true
      ∧ ((gauged none none).gauge.get .a).state = .valid ∧ (gauged none none).tilt.absenceTimer.isSome = true
      ∧ (((gauged (some 9) none).gauge.get .a).validQualification.isSome = true
        ∧ ((gauged (some 9) none).gauge.get .a).spacing = none)
      ∧ (((gauged none (some 9)).gauge.get .a).spacing.isSome = true
        ∧ ((gauged none (some 9)).gauge.get .a).validQualification = none)
      ∧ ((gauged none (some 9)).supply = .normal ∧ (gauged none (some 9)).compIdle .a = true
        ∧ ((gauged none (some 9)).receipts.get .a).state = .closed
        ∧ ((gauged none (some 9)).gauge.get .a).lastValid.isSome = true)
      ∧ (((withReceipt .a .filling).receipts.get .a).state = .filling
        ∧ (withReceipt .a .filling).supply = .normal
        ∧ (withReceipt .a .filling).cal.highHigh.get .a ≤ min 40000 40000)
      ∧ ((gauged none none).switches.brakeReleased = false ∧ travelling.switches.brakeReleased = true
        ∧ (travelling.gauge.get .a).history.length < 10) := by decide

theorem witness_OpeningAndOverfill :
    ((withReceipt .a .opening).receipts.get .a).state = .opening
      ∧ ((withReceipt .a .opening).receipts.get .a).qualification.isSome = true
      ∧ ((withReceipt .a .opening).receipts.get .a).limit.isSome = true
      ∧ (withReceipt .a .opening).switches.overfill.get .a = false
      ∧ (withReceipt .a .opening).switches.estop = false ∧ (withReceipt .a .opening).atHighHigh .a = false
      ∧ (State.reset.switches.overfill.set .a true).get .a = true
      ∧ (withReceipt .a .filling).supply = .normal ∧ saved.switches.overfill.get .a = false
      ∧ saved.supply = .saved := by decide

/-- A SETTLING receipt on a GAUGE basis with its opening snapshot, and a last valid gauge. -/
def closing : State :=
  { withReceipt .a .settling with
    gauge := (gauged none none).gauge
    receipts := State.reset.receipts.set .a
      { Receipt.fresh with
        state := .settling, declared := some 600000, basis := some .gauge, v0 := some ⟨100000, 2000, false⟩
        dispensed := some 250, qualification := some 9, limit := some 9 } }

/-- The closing snapshot measures V1 − V0 + D = 614,056 − 100,000 + 250 (R147). -/
theorem test_measured :
    (after (.settlingQualificationExpiry .a) closing).receipts.a.measured = some 514306 := by decide

theorem witness_SettlingCloses :
    (closing.receipts.get .a).state = .settling ∧ closing.journal.register.receipts.get .a = some false
      ∧ (closing.receipts.get .a).declared = some 600000
      ∧ (closing.receipts.get .a).qualification.isSome = true ∧ (closing.receipts.get .a).limit.isSome = true
      ∧ (closing.receipts.get .a).v0 = some ⟨100000, 2000, false⟩
      ∧ (closing.gauge.get .a).lastValid = some ⟨1500, 614056, 614056, 150, false, 0⟩ := by decide

/-- The supply fell while H1 was PAUSED (R187). -/
def dipped : State :=
  after .entryToSaved
    { holding false with
      journal := settling.journal
      chan := State.reset.chan.set .h1 { State.reset.chan.get .h1 with bound := true } }

theorem witness_CalSwitchAndSupply :
    State.reset.switches.calEnable = false ∧ unlocked.switches.calEnable = true ∧ State.reset.supply = .normal
      ∧ dipped.supply = .saved ∧ (waiting .lookup |> after .entryToSaved).slotState .h1 = .lookup
      ∧ (dipped.save.slots.get .h1).map (·.slot.state.authorised) = some true
      ∧ ((dipped.save.slots.get .h1).bind (·.meter)).isSome = true
      ∧ dipped.journal.register.hoses.get .h1 = some true ∧ dipped.save.register.hoses.get .h1 = some true
      ∧ ((after .entryToSaved (withReceipt .a .filling)).save.receipts.get .a).map (·.state) = some .filling
      ∧ (after .entryToSaved (withReceipt .a .filling)).supply = .saved
      ∧ State.reset.save.receipts.get .a = none := by decide

end Sys2Proof.Tests
end

section
/-! The collection commands READ_FROM and COLLECTED (R169, R170), which the Office port takes: what each leaves
in the journal, and that all but the journal, the ports and the driven lines stands. -/

namespace Sys2Proof.Machine

open Sys2Proof

variable {s : State}

/-! ### A command that a port takes -/

/-- The end of a command that the Office port takes: its owner's answer stands in the buffer. -/
theorem State.takeCommand_office_finish {owner : State → Answer} (ht : s.takes .office) :
    (s.takeCommand .office onOffice false owner).finish =
      ((owner s).1.answer .office (owner s).2).finish := by
  obtain ⟨empty, normal⟩ := ht
  rw [State.takeCommand_taken empty rfl normal]

/-- A command whose owner leaves the state as it was only answers. -/
theorem answers_of_exec_eq_answer {c : Instr} {p : Port} {r : Response}
    (he : exec c s = (s.answer p r).finish) : answers c s [] p r :=
  ⟨_, he.trans (State.finish_eq _), rfl, rfl⟩

/-- A command whose owner writes the journal alone, and leaves it as `j`: the response, the journal and the
driven lines are all that has changed. -/
theorem exec_journal_frame {c : Instr} {j : Journal} {p : Port} {r : Response}
    (he : exec c s = (({ s with journal := j } : State).answer p r).finish) :
    ∃ t, exec c s = .next t ∧ t.journal = j ∧ t.ports = s.portsWith [] p r
      ∧ t = { s with journal := t.journal, ports := t.ports, out := t.out } :=
  ⟨_, he.trans (State.finish_eq _), rfl, rfl, rfl⟩

theorem exec_readFrom_taken (n : BitVec 32) (ht : s.takes .office) :
    exec (.readFrom .office n) s =
      ((ownReadFrom n s).1.answer .office (ownReadFrom n s).2).finish :=
  State.takeCommand_office_finish ht

theorem exec_collected_taken (n : BitVec 32) (ht : s.takes .office) :
    exec (.collected .office n) s =
      ((ownCollected n s).1.answer .office (ownCollected n s).2).finish :=
  State.takeCommand_office_finish ht

/-! ### READ_FROM (R169) -/

/-- The cursor READ_FROM sets: the number given, held between oldest uncollected and next. -/
def Journal.heldCursor (j : Journal) (n : Nat) : Nat := max j.oldest (min n j.next)

theorem ownReadFrom_eq (n : BitVec 32) :
    ownReadFrom n s =
      accepted { s with journal := { s.journal with cursor := s.journal.heldCursor n.toNat } } := rfl

theorem Journal.heldCursor_of_lt {j : Journal} {n : Nat} (below : n < j.oldest) :
    j.heldCursor n = j.oldest :=
  max_eq_left ((min_le_left _ _).trans below.le)

theorem Journal.heldCursor_of_mem {j : Journal} {n : Nat} (lo : j.oldest ≤ n) (hi : n < j.next) :
    j.heldCursor n = n := by
  rw [Journal.heldCursor, min_eq_left hi.le, max_eq_right lo]

theorem Journal.heldCursor_of_ge {j : Journal} {n : Nat} (run : j.oldest ≤ j.next) (above : j.next ≤ n) :
    j.heldCursor n = j.next := by
  rw [Journal.heldCursor, min_eq_right above, max_eq_right run]

theorem Journal.sound.oldest_le_next {j : Journal} (hj : j.sound) : j.oldest ≤ j.next := by
  obtain ⟨length, -⟩ := hj
  omega

/-- Settles O36: the cursor is `Journal.heldCursor`, which the three clauses take case by case. -/
theorem readFromSetsCursor : Obligations.ReadFromSetsCursor := by
  intro s n ht hj
  have he := exec_readFrom_taken n ht
  rw [ownReadFrom_eq] at he
  obtain ⟨t, hexec, hjournal, hports, hframe⟩ := exec_journal_frame he
  have hcursor : t.journal.cursor = s.journal.heldCursor n.toNat := by rw [hjournal]
  refine ⟨t, hexec, ?below, ?within, ?above, ?journal, hports, hframe⟩
  case below => exact fun below => hcursor.trans (Journal.heldCursor_of_lt below)
  case within => exact fun lo hi => hcursor.trans (Journal.heldCursor_of_mem lo hi)
  case above => exact fun above => hcursor.trans (Journal.heldCursor_of_ge hj.oldest_le_next above)
  case journal => rw [hcursor, hjournal]

/-! ### COLLECTED (R170) and the high mark (R162) -/

/-- The journal with every record up to `n` released, before the high mark follows. -/
def Journal.released (j : Journal) (n : Nat) : Journal :=
  { j with
    records := j.records.drop (n + 1 - j.oldest)
    oldest := n + 1
    cursor := max j.cursor (n + 1) }

theorem State.releaseRecords_eq_noteFree (n : Nat) :
    s.releaseRecords n = (s.modJournal (·.released n)).noteFree s.journal.free := rfl

/-- A release never lowers the free count, so it can only clear the latch. -/
theorem Journal.free_le_free_released {j : Journal} {n : Nat} (lo : j.oldest ≤ n) :
    j.free ≤ (j.released n).free := by
  simp only [Journal.free, Journal.uncollected, Journal.released]
  omega

/-- The journal with its latch cleared where the free count has risen past 32 from `before` (R162). -/
def Journal.latchCleared (j : Journal) (before : Nat) : Journal :=
  { j with highLatch := if before ≤ 32 ∧ 33 ≤ j.free then false else j.highLatch }

/-- A free count that has not fallen raises nothing: the high mark only clears. -/
theorem State.noteFree_of_le_free {before : Nat} (rises : before ≤ s.journal.free) :
    s.noteFree before = { s with journal := s.journal.latchCleared before } := by
  have no_fall : ¬(33 ≤ before ∧ s.journal.free ≤ 32) := by omega
  by_cases clears : before ≤ 32 ∧ 33 ≤ s.journal.free
  · simp only [State.noteFree, if_neg no_fall, if_pos clears, State.modJournal, Journal.latchCleared]
  · simp only [State.noteFree, if_neg no_fall, if_neg clears, Journal.latchCleared]

theorem State.releaseRecords_eq {n : Nat} (lo : s.journal.oldest ≤ n) :
    s.releaseRecords n =
      { s with journal := (s.journal.released n).latchCleared s.journal.free } := by
  rw [State.releaseRecords_eq_noteFree, State.noteFree_of_le_free]
  · rfl
  · exact Journal.free_le_free_released lo

theorem ownCollected_unwritten {n : BitVec 32} (unwritten : s.journal.next ≤ n.toNat) :
    ownCollected n s = denied s .outOfRange := by
  rw [ownCollected, if_pos unwritten]

theorem ownCollected_below {n : BitVec 32} (written : n.toNat < s.journal.next)
    (below : n.toNat < s.journal.oldest) :
    ownCollected n s = answerWith s s.journal.summary := by
  rw [ownCollected, if_neg written.not_ge, if_pos below]

theorem ownCollected_within {n : BitVec 32} (written : n.toNat < s.journal.next)
    (lo : s.journal.oldest ≤ n.toNat) :
    ownCollected n s =
      let j := (s.journal.released n.toNat).latchCleared s.journal.free
      answerWith { s with journal := j } j.summary := by
  rw [ownCollected, if_neg written.not_ge, if_neg lo.not_gt, State.releaseRecords_eq lo]

/-- Settles O37, along the three branches of the command's owner; a release cannot lower the free count, so its
high mark at most clears the latch and no event is raised. -/
theorem collectedReleasesRecords : Obligations.CollectedReleasesRecords := by
  intro s n ht _
  have he := exec_collected_taken n ht
  refine ⟨?unwritten, ?below, ?within⟩
  case unwritten =>
    intro unwritten
    rw [ownCollected_unwritten unwritten] at he
    exact answers_of_exec_eq_answer he
  case below =>
    intro written below
    rw [ownCollected_below written below] at he
    exact answers_of_exec_eq_answer he
  case within =>
    intro written lo
    rw [ownCollected_within written lo] at he
    obtain ⟨t, hexec, hjournal, hports, hframe⟩ := exec_journal_frame he
    refine ⟨t, hexec, ?_, ?_, ?_, ?_, ?_, ?_, ?ports, hframe⟩
    case ports => rw [hjournal]; exact hports
    all_goals rw [hjournal]; rfl

end Sys2Proof.Machine
end

section
/-! What every command keeps. `Moves a s t` says that a passage from `s` to `t` breaks none of the invariants of
Safety.lean, and, unless the part was awake (`a`) when the command came, touches neither the run of records nor
the stopped timers. It is a preorder, so it is shown once for each operation, in the order of the definitions;
each invariant is then read off. -/

namespace Sys2Proof

variable {α : Type}

theorem PerHose.get_set (x : PerHose α) (h k : Hose) (v : α) :
    (x.set h v).get k = if k = h then v else x.get k := by
  split
  · next e => rw [e, PerHose.get_set_same]
  · next e => exact PerHose.get_set_ne x v e

theorem PerComp.get_set (x : PerComp α) (c d : Comp) (v : α) :
    (x.set c v).get d = if d = c then v else x.get d := by
  split
  · next e => rw [e, PerComp.get_set_same]
  · next e => exact PerComp.get_set_ne x v e

@[simp] theorem PerHose.set_set (x : PerHose α) (h : Hose) (v w : α) : (x.set h v).set h w = x.set h w := by
  cases h <;> rfl

@[simp] theorem PerComp.set_set (x : PerComp α) (c : Comp) (v w : α) : (x.set c v).set c w = x.set c w := by
  cases c <;> rfl

@[simp] theorem PerPort.set_set (x : PerPort α) (p : Port) (v w : α) : (x.set p v).set p w = x.set p w := by
  cases p <;> rfl

@[simp] theorem PerPort.set_get (x : PerPort α) (p : Port) : x.set p (x.get p) = x := by cases p <;> rfl

/-- What holds at every hose still holds after an update at one hose that keeps it there. -/
theorem PerHose.forall_set {P : Hose → α → Prop} {x : PerHose α} {h : Hose} {v : α}
    (all : ∀ k, P k (x.get k)) (here : P h (x.get h) → P h v) (k : Hose) : P k ((x.set h v).get k) := by
  rw [PerHose.get_set]
  split
  · next e => exact e ▸ here (all h)
  · exact all k

theorem PerComp.forall_set {P : Comp → α → Prop} {x : PerComp α} {c : Comp} {v : α}
    (all : ∀ d, P d (x.get d)) (here : P c (x.get c) → P c v) (d : Comp) : P d ((x.set c v).get d) := by
  rw [PerComp.get_set]
  split
  · next e => exact e ▸ here (all c)
  · exact all d

end Sys2Proof

namespace Sys2Proof.Machine

open Sys2Proof

/-! ### The relation -/

/-- The queue stands and no invariant of slots, channels, cache and stock is broken from `s` to `t`. -/
structure Kept (s t : State) : Prop where
  pending : t.pending = s.pending
  cut : s.CutInv → t.CutInv
  bound : s.BoundInv → t.BoundInv
  meter : s.MeterInv → t.MeterInv
  cache : s.CacheInv → t.CacheInv
  stock : s.StockInv → t.StockInv

/-- As `Kept`, with the journal, the supply and the Save Area: where the part was not awake (`a`) the run of records
stands, and what is stopped stays stopped. -/
structure Moves (a : Prop) (s t : State) : Prop extends Kept s t where
  sound : s.journal.sound → t.journal.sound
  supply : t.supply = s.supply
  save : t.save = s.save
  asleep : ¬a → t.journal.records = s.journal.records ∧ t.journal.next = s.journal.next
    ∧ (s.frozen → t.frozen)

/-- The part acts: the supply is NORMAL, or a timer that SAVED stops is running. -/
def State.awake (s : State) : Prop := s.supply = .normal ∨ ¬s.frozen

theorem Kept.refl (s : State) : Kept s s := ⟨rfl, id, id, id, id, id⟩

theorem Kept.trans {s t u : State} (f : Kept s t) (g : Kept t u) : Kept s u where
  pending := g.pending.trans f.pending
  cut := g.cut ∘ f.cut
  bound := g.bound ∘ f.bound
  meter := g.meter ∘ f.meter
  cache := g.cache ∘ f.cache
  stock := g.stock ∘ f.stock

variable {a : Prop} {s t u : State}

theorem Moves.refl (s : State) : Moves a s s := ⟨Kept.refl s, id, rfl, rfl, fun _ => ⟨rfl, rfl, id⟩⟩

theorem Moves.trans (f : Moves a s t) (g : Moves a t u) : Moves a s u where
  toKept := f.toKept.trans g.toKept
  sound := g.sound ∘ f.sound
  supply := g.supply.trans f.supply
  save := g.save.trans f.save
  asleep na :=
    let ⟨fr, fn, ff⟩ := f.asleep na
    let ⟨gr, gn, gf⟩ := g.asleep na
    ⟨gr.trans fr, gn.trans fn, gf ∘ ff⟩

/-- `Moves.trans` with the later passage first, as the operations are nested. -/
theorem Moves.comp (g : Moves a t u) (f : Moves a s t) : Moves a s u := f.trans g

theorem Moves.ite {c : Prop} [Decidable c] (f : c → Moves a s t) (g : ¬c → Moves a s u) :
    Moves a s (if c then t else u) := by
  split
  · next h => exact f h
  · next h => exact g h

/-! ### Updates of one block -/

/-- The fields that no invariant reads. -/
theorem Moves.quiet (now pumps nozzleReader panelReader pendingTag operator logoffTimer clock prices gauge tilt
    depot resetCause ports switches out) :
    Moves a s { s with
      now := now, pumps := pumps, nozzleReader := nozzleReader, panelReader := panelReader
      pendingTag := pendingTag, operator := operator, logoffTimer := logoffTimer, clock := clock
      prices := prices, gauge := gauge, tilt := tilt, depot := depot, resetCause := resetCause
      ports := ports, switches := switches, out := out } :=
  ⟨⟨rfl, id, id, id, id, id⟩, id, rfl, rfl, fun _ => ⟨rfl, rfl, id⟩⟩

theorem Moves.raise (e : Event) : Moves a s (s.raise e) := Moves.quiet ..

/-- A slot's record, where a running state comes from a running one and the transaction stays active or not. -/
theorem Moves.slot (h : Hose) (x : Slot) (active : x.state.authorised = (s.slotState h).authorised)
    (runs : x.state.running = true → (s.slotState h).running = true) :
    Moves a s { s with slots := s.slots.set h x } where
  pending := rfl
  cut inv c := by
    refine ⟨(inv c).1, fun cut k hk => ?_⟩
    refine PerHose.forall_set (P := fun k (y : Slot) => hoseComp k = c → y.state.running = false)
      (fun k => (inv c).2 cut k) (fun old hh => ?_) k hk
    exact Bool.eq_false_iff.2 fun r => by simp_all [State.slotState]
  bound inv := PerHose.forall_set (P := fun k (y : Slot) => (s.chan.get k).bound = y.state.authorised) inv
    fun old => old.trans active.symm
  meter inv := ⟨PerHose.forall_set (P := fun k (y : Slot) => (s.chan.get k).bound = y.state.authorised) inv.1
    fun old => old.trans active.symm, inv.2⟩
  cache := id
  stock := id
  sound := id
  supply := rfl
  save := rfl
  asleep _ := ⟨rfl, rfl, id⟩

theorem Moves.modSlot (h : Hose) (f : Slot → Slot) (same : (f (s.slots.get h)).state = s.slotState h) :
    Moves a s (s.modSlot h f) :=
  Moves.slot h _ (by rw [same]) (by rw [same]; exact id)

/-- A timer that SAVED stops is not started. -/
def Timer.stays (old new : Timer) : Prop := old = none → new = none

/-- A hose's control record; while the part is not awake the timers that SAVED stops are not started. -/
theorem Moves.modHoseCtl (h : Hose) (f : HoseControl → HoseControl)
    (calm : a ∨ Timer.stays (s.hoseCtl.get h).settle (f (s.hoseCtl.get h)).settle
      ∧ Timer.stays (s.hoseCtl.get h).noFlow (f (s.hoseCtl.get h)).noFlow
      ∧ Timer.stays (s.hoseCtl.get h).pause (f (s.hoseCtl.get h)).pause) :
    Moves a s (s.modHoseCtl h f) where
  pending := rfl
  cut := id
  bound := id
  meter := id
  cache := id
  stock := id
  sound := id
  supply := rfl
  save := rfl
  asleep na := by
    obtain ⟨settle, noFlow, pause⟩ := calm.resolve_left na
    exact ⟨rfl, rfl, fun ⟨hoses, rest⟩ =>
      ⟨PerHose.forall_set
        (P := fun k (x : HoseControl) => x.settle = none ∧ x.noFlow = none ∧ x.pause = none ∧ (s.tracking.get k).restoreWindow = none)
        hoses fun ⟨hs, hn, hp, hr⟩ => ⟨settle hs, noFlow hn, pause hp, hr⟩, rest⟩⟩

/-- A hose's control record with the three timers as they were. -/
theorem Moves.modHoseCtl_same (h : Hose) (f : HoseControl → HoseControl)
    (settle : (f (s.hoseCtl.get h)).settle = (s.hoseCtl.get h).settle)
    (noFlow : (f (s.hoseCtl.get h)).noFlow = (s.hoseCtl.get h).noFlow)
    (pause : (f (s.hoseCtl.get h)).pause = (s.hoseCtl.get h).pause) : Moves a s (s.modHoseCtl h f) :=
  Moves.modHoseCtl h f (.inr ⟨settle.trans, noFlow.trans, pause.trans⟩)

theorem Moves.modTracking (h : Hose) (f : Tracking → Tracking)
    (calm : a ∨ Timer.stays (s.tracking.get h).restoreWindow (f (s.tracking.get h)).restoreWindow) :
    Moves a s (s.modTracking h f) where
  pending := rfl
  cut := id
  bound := id
  meter := id
  cache := id
  stock := id
  sound := id
  supply := rfl
  save := rfl
  asleep na := ⟨rfl, rfl, fun ⟨hoses, rest⟩ =>
    ⟨PerHose.forall_set
      (P := fun j (x : Tracking) => (s.hoseCtl.get j).settle = none ∧ (s.hoseCtl.get j).noFlow = none
        ∧ (s.hoseCtl.get j).pause = none ∧ x.restoreWindow = none)
      hoses fun ⟨hs, hn, hp, hr⟩ => ⟨hs, hn, hp, calm.resolve_left na hr⟩, rest⟩⟩

theorem Moves.modReceipt (c : Comp) (f : Receipt → Receipt)
    (calm : a ∨ Timer.stays (s.receipts.get c).qualification (f (s.receipts.get c)).qualification
      ∧ Timer.stays (s.receipts.get c).limit (f (s.receipts.get c)).limit) :
    Moves a s (s.modReceipt c f) where
  pending := rfl
  cut := id
  bound := id
  meter := id
  cache := id
  stock := id
  sound := id
  supply := rfl
  save := rfl
  asleep na := by
    obtain ⟨qualification, limit⟩ := calm.resolve_left na
    exact ⟨rfl, rfl, fun ⟨hoses, receipts, supervisor⟩ =>
      ⟨hoses, PerComp.forall_set (P := fun _ (x : Receipt) => x.qualification = none ∧ x.limit = none) receipts
        fun ⟨hq, hl⟩ => ⟨qualification hq, limit hl⟩, supervisor⟩⟩

/-- A receipt's record with both timers as they were. -/
theorem Moves.modReceipt_same (c : Comp) (f : Receipt → Receipt)
    (qualification : (f (s.receipts.get c)).qualification = (s.receipts.get c).qualification)
    (limit : (f (s.receipts.get c)).limit = (s.receipts.get c).limit) : Moves a s (s.modReceipt c f) :=
  Moves.modReceipt c f (.inr ⟨qualification.trans, limit.trans⟩)

theorem Moves.supervisor (w : Timer) (calm : a ∨ w = none) : Moves a s { s with supervisor := w } where
  pending := rfl
  cut := id
  bound := id
  meter := id
  cache := id
  stock := id
  sound := id
  supply := rfl
  save := rfl
  asleep na := ⟨rfl, rfl, fun ⟨hoses, receipts, _⟩ => ⟨hoses, receipts, calm.resolve_left na⟩⟩

/-- A channel's record under the calibrated factor `kq`: binding stands, ranges and totalizers are kept. -/
structure Channel.keeps (kq : Nat) (c c' : Channel) : Prop where
  bound : c'.bound = c.bound
  inRange : 200 ≤ kq → c.inRange kq → c'.inRange kq
  gross : c.grossTotalizer < totalizerModulus → c'.grossTotalizer < totalizerModulus
  net : c.netTotalizer < totalizerModulus → c'.netTotalizer < totalizerModulus

/-- A channel that differs in levels, temperature, marks and pulse counters within their ranges. -/
theorem Channel.keeps_of_eq {kq : Nat} {c c' : Channel} (bound : c'.bound = c.bound) (txn : c'.txn = c.txn)
    (context : c'.unattributed = c.unattributed) (gross : c'.grossTotalizer = c.grossTotalizer)
    (net : c'.netTotalizer = c.netTotalizer)
    (debt : 200 ≤ kq → c.inRange kq → c'.debt ≤ debtCap kq) (errors : c.phaseErrors ≤ 9 → c'.phaseErrors ≤ 9)
    (unmetered : c.unmetered ≤ 65535 → c'.unmetered ≤ 65535) : c.keeps kq c' where
  bound := bound
  inRange hk r := by
    have ⟨rTxn, rContext, _, rErrors, rUnmetered⟩ := r
    exact ⟨by rwa [bound, txn], by rwa [context], debt hk r, errors rErrors, unmetered rUnmetered⟩
  gross := by rw [gross]; exact id
  net := by rw [net]; exact id

theorem Moves.modChan (h : Hose) (f : Channel → Channel)
    (keeps : (s.chan.get h).keeps (s.cal.kq.get h) (f (s.chan.get h))) : Moves a s (s.modChan h f) where
  pending := rfl
  cut := id
  bound inv := PerHose.forall_set (P := fun k (y : Channel) => y.bound = (s.slotState k).authorised) inv
    fun old => keeps.bound.trans old
  meter inv := ⟨PerHose.forall_set (P := fun k (y : Channel) => y.bound = (s.slotState k).authorised) inv.1
      fun old => keeps.bound.trans old,
    PerHose.forall_set (P := fun k (y : Channel) => 200 ≤ s.cal.kq.get k ∧ s.cal.kq.get k ≤ 20000 ∧ y.inRange (s.cal.kq.get k))
      inv.2 fun ⟨lo, hi, range⟩ => ⟨lo, hi, keeps.inRange lo range⟩⟩
  cache := id
  stock := fun ⟨live, saved, totals, savedTotals⟩ =>
    ⟨live, saved, PerHose.forall_set
      (P := fun _ (y : Channel) => y.grossTotalizer < totalizerModulus ∧ y.netTotalizer < totalizerModulus) totals
      fun ⟨gross, net⟩ => ⟨keeps.gross gross, keeps.net net⟩, savedTotals⟩
  sound := id
  supply := rfl
  save := rfl
  asleep _ := ⟨rfl, rfl, id⟩

/-- The cache invariant as one of the Roster Unit alone. -/
def Roster.placed (r : Roster) : Prop :=
  ∀ (i : Fin 16) (w : Fin 4) (e : Entry), r.entryAt ⟨i, w⟩ = some e →
    e.inSet i ∧ ∀ (v : Fin 4) (f : Entry), r.entryAt ⟨i, v⟩ = some f → f.body.machine = e.body.machine → v = w

theorem State.cacheInv_iff : s.CacheInv ↔ s.roster.placed := Iff.rfl

theorem Moves.modRoster (f : Roster → Roster) (placed : s.roster.placed → (f s.roster).placed) :
    Moves a s (s.modRoster f) where
  pending := rfl
  cut := id
  bound := id
  meter := id
  cache := placed
  stock := id
  sound := id
  supply := rfl
  save := rfl
  asleep _ := ⟨rfl, rfl, id⟩

/-- An update of the Roster Unit that leaves the cache alone. -/
theorem Moves.modRoster_cache (f : Roster → Roster) (same : (f s.roster).cache = s.roster.cache) :
    Moves a s (s.modRoster f) :=
  Moves.modRoster f fun placed => by simpa only [Roster.placed, Roster.entryAt, same] using placed

theorem Moves.modJournal (f : Journal → Journal) (sound : s.journal.sound → (f s.journal).sound)
    (calm : a ∨ (f s.journal).records = s.journal.records ∧ (f s.journal).next = s.journal.next) :
    Moves a s (s.modJournal f) where
  pending := rfl
  cut := id
  bound := id
  meter := id
  cache := id
  stock := id
  sound := sound
  supply := rfl
  save := rfl
  asleep na :=
    let ⟨records, next⟩ := calm.resolve_left na
    ⟨records, next, id⟩

/-- The Calibration Store but for meter factors and dead stock. -/
theorem Moves.modCal (f : Calibration → Calibration) (kq : (f s.cal).kq = s.cal.kq)
    (dead : (f s.cal).dead = s.cal.dead) : Moves a s (s.modCal f) where
  pending := rfl
  cut inv c := by simpa only [dead, State.modCal, State.slotState] using inv c
  bound := id
  meter inv := ⟨inv.1, fun h => by simpa only [kq, State.modCal] using inv.2 h⟩
  cache := id
  stock := id
  sound := id
  supply := rfl
  save := rfl
  asleep _ := ⟨rfl, rfl, id⟩

/-- A stock record but for its figures and its cut flag. -/
theorem Moves.modStock (c : Comp) (f : Stock → Stock) (book : (f (s.stock.get c)).book = (s.stock.get c).book)
    (credited : (f (s.stock.get c)).credited = (s.stock.get c).credited)
    (adjusted : (f (s.stock.get c)).adjusted = (s.stock.get c).adjusted)
    (dispensed : (f (s.stock.get c)).dispensed = (s.stock.get c).dispensed)
    (cut : (f (s.stock.get c)).cut = (s.stock.get c).cut) : Moves a s (s.modStock c f) where
  pending := rfl
  cut := PerComp.forall_set
    (P := fun d (y : Stock) => (y.cut = true ↔ y.book ≤ s.cal.dead.get d)
      ∧ (y.cut = true → ∀ h, hoseComp h = d → (s.slotState h).running = false))
    (here := by rw [cut, book]; exact id)
  bound := id
  meter := id
  cache := id
  stock := fun ⟨live, rest⟩ =>
    ⟨PerComp.forall_set (P := fun _ (y : Stock) => figuresInRange y.book y.credited y.adjusted y.dispensed) live
      (by rw [book, credited, adjusted, dispensed]; exact id), rest⟩
  sound := id
  supply := rfl
  save := rfl
  asleep _ := ⟨rfl, rfl, id⟩

end Sys2Proof.Machine
end

section
/-! The shared operations of the Journal, Hose Control, Stock and Receipt Units keep the invariants. -/

namespace Sys2Proof.Machine

open Sys2Proof

variable {a : Prop} {s t u : State}

/-! ### Journal Unit -/

theorem boolBit_le_one (b : Bool) : boolBit b ≤ 1 := by cases b <;> decide

theorem boolBit_true : boolBit true = 1 := rfl

theorem boolBit_false : boolBit false = 0 := rfl

theorem Register.count_put_some_le (r : Register) (k : Holder) (m : Bool) :
    (r.put k (some m)).count ≤ r.count + 1 := by
  rcases k with h | c
  · cases h <;> simp only [Register.put, Register.count, PerHose.set, Option.isSome_some, boolBit_true] <;> omega
  · cases c <;> simp only [Register.put, Register.count, PerComp.set, Option.isSome_some, boolBit_true] <;> omega

theorem Register.count_put_none (r : Register) (k : Holder) :
    (r.put k none).count + boolBit (r.get k).isSome = r.count := by
  rcases k with h | c
  · cases h <;> simp only [Register.put, Register.get, Register.count, PerHose.set, PerHose.get,
      Option.isSome_none, boolBit_false] <;> omega
  · cases c <;> simp only [Register.put, Register.get, Register.count, PerComp.set, PerComp.get,
      Option.isSome_none, boolBit_false] <;> omega

/-- A sound journal with a free slot has room for one more holder or record. -/
theorem Journal.sound.room {j : Journal} (sound : j.sound) (free : j.free ≠ 0) :
    j.records.length + j.register.count + 1 ≤ 512 ∧ j.next + j.register.count + 1 ≤ seqEnd := by
  obtain ⟨run, -⟩ := sound
  simp only [Journal.free, Journal.uncollected] at free
  omega

/-- Another register and latch in a sound journal. -/
theorem Journal.sound.withRegister {j : Journal} {r : Register} {latch : Bool} (sound : j.sound)
    (slots : j.records.length + r.count ≤ 512) (numbers : j.next + r.count ≤ seqEnd) :
    Journal.sound { j with register := r, highLatch := latch } := by
  obtain ⟨run, seqs, -, -, cursor⟩ := sound
  exact ⟨run, seqs, slots, numbers, cursor⟩

/-- A record at the next number lengthens the run by one, where the register leaves room for it. -/
theorem Journal.sound.push {j : Journal} {r : Register} {flag : Bool} {body : RecordBody} (sound : j.sound)
    (slots : j.records.length + 1 + r.count ≤ 512) (numbers : j.next + 1 + r.count ≤ seqEnd) :
    Journal.sound { j with
      register := r, records := j.records ++ [⟨j.next, flag, body⟩], next := j.next + 1 } := by
  obtain ⟨run, seqs, -, -, low, high⟩ := sound
  refine ⟨?_, ?_, ?_, numbers, low, ?_⟩
  · simp only [List.length_append, List.length_singleton]; omega
  · simp only [List.map_append, List.map_cons, List.map_nil, List.length_append, List.length_singleton, seqs,
      List.range'_concat, one_mul, run]
  · simpa only [List.length_append, List.length_singleton] using slots
  · exact high.trans (Nat.le_succ _)

theorem Moves.noteFree (before : Nat) : Moves a s (s.noteFree before) := by
  obtain ⟨latch, ports, e⟩ := s.noteFree_frame before
  rw [e]
  exact (Moves.modJournal (fun j => { j with highLatch := latch }) id (.inr ⟨rfl, rfl⟩)).trans (Moves.quiet ..)

theorem Moves.reserveSlot (k : Holder) (free : s.journal.free ≠ 0) : Moves a s (s.reserveSlot k) := by
  refine Moves.comp (Moves.noteFree _) (Moves.modJournal _ (fun sound => ?_) (.inr ⟨rfl, rfl⟩))
  have room := sound.room free
  have count := s.journal.register.count_put_some_le k !s.clock.valid
  exact sound.withRegister (by omega) (by omega)

theorem Moves.releaseSlot (k : Holder) : Moves a s (s.releaseSlot k) := by
  refine Moves.comp (Moves.noteFree _) (Moves.modJournal _ (fun sound => ?_) (.inr ⟨rfl, rfl⟩))
  have count := s.journal.register.count_put_none k
  obtain ⟨-, -, slots, numbers, -⟩ := id sound
  exact sound.withRegister (by omega) (by omega)

theorem Moves.appendDirect (awake : a) (body : RecordBody) (free : s.journal.free ≠ 0) :
    Moves a s (s.appendDirect body) := by
  refine Moves.comp (Moves.noteFree _) (Moves.comp (Moves.raise .journalNew)
    (Moves.modJournal _ (fun sound => ?_) (.inl awake)))
  have room := sound.room free
  exact sound.push (by omega) (by omega)

/-- A holder's place becomes its record: one holder less, one record more. -/
theorem Moves.convertSlot (awake : a) (k : Holder) (body : RecordBody) : Moves a s (s.convertSlot k body) := by
  rcases s.convertSlot_cases k body with ⟨-, same⟩ | ⟨mark, holds, converted⟩
  · rw [same]; exact Moves.refl s
  · rw [converted]
    have count := s.journal.register.count_put_none k
    rw [holds, Option.isSome_some, boolBit_true] at count
    refine Moves.trans (t := s.modJournal fun j =>
        { j with
          register := j.register.put k none
          records := j.records ++ [⟨j.next, body.ownClockInvalid || !s.clock.valid || mark, body⟩]
          next := j.next + 1 })
      (Moves.modJournal _ (fun sound => ?_) (.inl awake)) (Moves.raise .journalNew)
    obtain ⟨-, -, slots, numbers, -⟩ := id sound
    exact sound.push (by omega) (by omega)

theorem Moves.startJournal : Moves a s s.startJournal := by
  refine Moves.trans (t := s.modJournal fun j => { j with highLatch := j.free ≤ 32, cursor := j.oldest })
    (Moves.modJournal _ (fun ⟨run, seqs, slots, numbers, low, high⟩ =>
      ⟨run, seqs, slots, numbers, le_refl _, low.trans high⟩) (.inr ⟨rfl, rfl⟩)) ?_
  exact Moves.ite (fun _ => Moves.raise .journalHigh) fun _ => Moves.refl _

theorem Journal.sound.released {j : Journal} {n : Nat} (sound : j.sound) (lo : j.oldest ≤ n) (hi : n < j.next) :
    (j.released n).sound := by
  obtain ⟨run, seqs, slots, numbers, low, high⟩ := sound
  refine ⟨?_, ?_, ?_, numbers, le_max_right _ _, max_le high hi⟩ <;>
    simp only [Journal.released, List.length_drop]
  · omega
  · rw [List.map_drop, seqs, List.drop_range', mul_one]
    congr 1
    omega
  · omega

/-! ### Hose Control Unit -/

theorem SlotState.running_of_delivers {st : SlotState} (d : st.delivers = true) : st.running = true := by
  revert d; cases st <;> simp [SlotState.delivers, SlotState.running]

theorem SlotState.authorised_of_running {st : SlotState} (r : st.running = true) : st.authorised = true := by
  revert r; cases st <;> simp [SlotState.running, SlotState.authorised]

theorem Moves.setSlotState (h : Hose) (st : SlotState) (active : st.authorised = (s.slotState h).authorised)
    (runs : st.running = true → (s.slotState h).running = true) : Moves a s (s.setSlotState h st) := by
  obtain ⟨pumps, logoff, ports, e⟩ := s.setSlotState_frame h st
  rw [e]
  exact (Moves.slot h { s.slots.get h with state := st } active runs).trans (Moves.quiet ..)

/-- A change between two states in which the transaction is active and the slot runs. -/
theorem Moves.setRunning (h : Hose) {st : SlotState} (active : st.authorised = true)
    (runs : (s.slotState h).running = true) : Moves a s (s.setSlotState h st) :=
  Moves.setSlotState h st (active.trans (SlotState.authorised_of_running runs).symm) fun _ => runs

/-- A change between two states in which no transaction is active. -/
theorem Moves.setInactive (h : Hose) {st : SlotState} (new : st.authorised = false)
    (old : (s.slotState h).authorised = false) : Moves a s (s.setSlotState h st) :=
  Moves.setSlotState h st (new.trans old.symm) fun run =>
    absurd (SlotState.authorised_of_running run) (Bool.eq_false_iff.1 new)

theorem Moves.enterClosing (awake : a) (h : Hose) (cause : EndCause) : Moves a s (s.enterClosing h cause) := by
  unfold State.enterClosing
  refine Moves.ite (fun runs => ?_) fun _ => Moves.refl s
  refine Moves.comp (Moves.setRunning h rfl ?_) (Moves.comp (Moves.modTracking h _ (.inl awake))
    (Moves.comp (Moves.modHoseCtl h _ (.inl awake)) (Moves.modSlot h _ rfl)))
  simpa [State.slotState] using runs

theorem Moves.enterPaused (awake : a) (h : Hose) (runs : (s.slotState h).running = true) :
    Moves a s (s.enterPaused h) :=
  Moves.comp (Moves.setRunning h rfl runs) (Moves.modHoseCtl h _ (.inl awake))

theorem Moves.enterSlowing (h : Hose) (runs : (s.slotState h).running = true) : Moves a s (s.enterSlowing h) :=
  Moves.comp (Moves.setRunning h rfl runs) (Moves.modHoseCtl_same h _ rfl rfl rfl)

theorem Moves.compareVolume (awake : a) (h : Hose) : Moves a s (s.compareVolume h) := by
  unfold State.compareVolume
  refine Moves.ite (fun _ => Moves.enterClosing awake h _) fun _ => Moves.ite (fun slow => ?_) fun _ => Moves.refl s
  refine Moves.enterSlowing h (SlotState.running_of_delivers ?_)
  simp only [Bool.and_eq_true, Bool.or_eq_true, beq_iff_eq] at slow
  rcases slow.1 with e | e <;> rw [e] <;> rfl

theorem Moves.returnToReady (awake : a) (h : Hose) (runs : (s.slotState h).running = true) :
    Moves a s (s.returnToReady h) :=
  Moves.comp (Moves.compareVolume awake h)
    (Moves.comp (Moves.setRunning h rfl runs) (Moves.modHoseCtl h _ (.inl awake)))

theorem Moves.addHold (awake : a) (h : Hose) (k : HoldCause) : Moves a s (s.addHold h k) := by
  unfold State.addHold
  refine Moves.ite (fun _ => Moves.ite (fun pauses => ?_) fun _ => Moves.modSlot h _ rfl) fun _ => Moves.refl s
  refine Moves.comp (Moves.enterPaused awake h (SlotState.running_of_delivers ?_)) (Moves.modSlot h _ rfl)
  simp only [Bool.and_eq_true] at pauses
  simpa [State.slotState] using pauses.2

theorem Moves.removeHold (awake : a) (h : Hose) (k : HoldCause) : Moves a s (s.removeHold h k) := by
  unfold State.removeHold
  refine Moves.ite (fun _ => Moves.ite (fun returns => ?_) fun _ => Moves.modSlot h _ rfl) fun _ => Moves.refl s
  simp only [Bool.and_eq_true, beq_iff_eq] at returns
  exact Moves.comp (Moves.returnToReady awake h (by rw [returns.2]; rfl)) (Moves.modSlot h _ rfl)

theorem Moves.meterException (h : Hose) (code : MeterException) : Moves a s (s.meterException h code) :=
  Moves.comp (Moves.raise _) (Moves.modHoseCtl_same h _ rfl rfl rfl)

theorem Moves.meterReport (awake : a) (h : Hose) (code : MeterException) : Moves a s (s.meterReport h code) :=
  Moves.comp (Moves.enterClosing awake h _) (Moves.meterException h code)

/-! ### Stock Unit -/

theorem Moves.restockTest (c : Comp) : Moves a s (s.restockTest c) :=
  Moves.ite (fun _ => Moves.comp (Moves.raise _) (Moves.modStock c _ rfl rfl rfl rfl rfl)) fun _ => Moves.refl s

theorem Moves.restockIfFell (c : Comp) (before : Nat) : Moves a s (s.restockIfFell c before) :=
  Moves.ite (fun _ => Moves.restockTest c) fun _ => Moves.refl s

theorem Moves.rearmTest (c : Comp) : Moves a s (s.rearmTest c) :=
  Moves.ite (fun _ => Moves.comp (Moves.restockTest c) (Moves.modStock c _ rfl rfl rfl rfl rfl))
    fun _ => Moves.refl s

theorem Moves.closeForCut (awake : a) (c : Comp) : Moves a s (s.closeForCut c) := by
  cases c with
  | a => exact Moves.comp (Moves.enterClosing awake .h2 _) (Moves.enterClosing awake .h1 _)
  | b => exact Moves.enterClosing awake .h3 _

/-- No slot runs on a hose that a closing event has reached. -/
theorem State.enterClosing_stops (h : Hose) (cause : EndCause) :
    ((s.enterClosing h cause).slotState h).running = false := by
  cases runs : (s.slotState h).running with
  | false => rw [s.enterClosing_idle cause runs, runs]
  | true => rw [State.slotState, s.enterClosing_slot cause runs]; rfl

theorem State.closeForCut_stops {c : Comp} {h : Hose} (hc : hoseComp h = c) :
    ((s.closeForCut c).slotState h).running = false := by
  subst hc
  cases h with
  | h1 =>
    rw [hoseComp, State.closeForCut, State.slotState, State.enterClosing_slots_ne _ _ (by decide)]
    exact State.enterClosing_stops ..
  | h2 => exact State.enterClosing_stops ..
  | h3 => exact State.enterClosing_stops ..

@[simp] theorem State.closeForCut_stock (c : Comp) : (s.closeForCut c).stock = s.stock := by
  cases c <;> simp [State.closeForCut]

@[simp] theorem State.closeForCut_cal (c : Comp) : (s.closeForCut c).cal = s.cal := by
  cases c <;> simp [State.closeForCut]

theorem State.closeForCut_slotState_ne {c : Comp} {h : Hose} (hc : hoseComp h ≠ c) :
    (s.closeForCut c).slotState h = s.slotState h := by
  have one (t : State) (k : Hose) (hk : h ≠ k) : (t.enterClosing k .deadStock).slotState h = t.slotState h := by
    rw [State.slotState, State.enterClosing_slots_ne _ _ hk, State.slotState]
  cases c with
  | a =>
    have h3 : h = .h3 := by cases h <;> first | rfl | exact absurd rfl hc
    subst h3
    exact (one _ .h2 (by decide)).trans (one s .h1 (by decide))
  | b => exact one s .h3 (by rintro rfl; exact hc rfl)

/-- A passage that begins with new figures or another dead stock for a compartment, and ends with its cut flag
evaluated. -/
theorem Moves.refigured {w : State} (c : Comp) (x : Stock) (k : Calibration) (pumps : PerComp PumpControl)
    (kq : k.kq = s.cal.kq)
    (figures : figuresInRange (s.stock.get c).book (s.stock.get c).credited (s.stock.get c).adjusted
      (s.stock.get c).dispensed → figuresInRange x.book x.credited x.adjusted x.dispensed)
    (cut : s.CutInv → w.CutInv)
    (after : Moves a { s with cal := k, stock := s.stock.set c x, pumps := pumps } w) : Moves a s w where
  pending := after.pending
  cut := cut
  bound := after.bound
  meter inv := after.meter ⟨inv.1, fun h => by simpa only [kq] using inv.2 h⟩
  cache := after.cache
  stock := fun ⟨live, rest⟩ => after.stock
    ⟨PerComp.forall_set (P := fun _ (y : Stock) => figuresInRange y.book y.credited y.adjusted y.dispensed) live
      figures, rest⟩
  sound := after.sound
  supply := after.supply
  save := after.save
  asleep := after.asleep

/-- The cut invariant where one compartment's flag has been evaluated and the other stands as it was. -/
theorem State.CutInv.of_comp {w : State} (c : Comp) (inv : s.CutInv)
    (here : ((w.stock.get c).cut = true ↔ (w.stock.get c).book ≤ w.cal.dead.get c)
      ∧ ((w.stock.get c).cut = true → ∀ h, hoseComp h = c → (w.slotState h).running = false))
    (others : ∀ d, d ≠ c → w.stock.get d = s.stock.get d ∧ w.cal.dead.get d = s.cal.dead.get d)
    (slots : ∀ h, hoseComp h ≠ c → w.slotState h = s.slotState h) : w.CutInv := by
  intro d
  by_cases hd : d = c
  · rw [hd]; exact here
  · obtain ⟨stock, dead⟩ := others d hd
    rw [stock, dead]
    exact ⟨(inv d).1, fun cut h hh => by rw [slots h (hh ▸ hd)]; exact (inv d).2 cut h hh⟩

theorem State.evaluateCut_of_agrees {c : Comp}
    (agrees : decide ((s.stock.get c).book ≤ s.cal.dead.get c) = (s.stock.get c).cut) : s.evaluateCut c = s := by
  simp only [State.evaluateCut, agrees, if_true]

theorem State.evaluateCut_of_low {c : Comp} (low : (s.stock.get c).book ≤ s.cal.dead.get c)
    (was : (s.stock.get c).cut = false) :
    s.evaluateCut c = (((s.modStock c fun x => { x with cut := true }).modPump c fun p =>
      { p with runOn := none }).closeForCut c).raise .stockCut := by
  simp [State.evaluateCut, low, was]

theorem State.evaluateCut_of_high {c : Comp} (high : ¬(s.stock.get c).book ≤ s.cal.dead.get c)
    (was : (s.stock.get c).cut = true) :
    s.evaluateCut c = (s.modStock c fun x => { x with cut := false }).raise .stockCut := by
  simp [State.evaluateCut, high, was]

/-- New figures or a new dead stock for a compartment, with the cut flag evaluated after them (R121, R122). -/
theorem Moves.evaluateCut (awake : a) (c : Comp) (f : Stock → Stock) (k : Calibration) (kq : k.kq = s.cal.kq)
    (dead : ∀ d, d ≠ c → k.dead.get d = s.cal.dead.get d) (cut : (f (s.stock.get c)).cut = (s.stock.get c).cut)
    (figures : figuresInRange (s.stock.get c).book (s.stock.get c).credited (s.stock.get c).adjusted
        (s.stock.get c).dispensed →
      figuresInRange (f (s.stock.get c)).book (f (s.stock.get c)).credited (f (s.stock.get c)).adjusted
        (f (s.stock.get c)).dispensed) :
    Moves a s (({ s with cal := k }.modStock c f).evaluateCut c) := by
  generalize hu : ({ s with cal := k } : State).modStock c f = u
  have stock : u.stock = s.stock.set c (f (s.stock.get c)) := by rw [← hu]; rfl
  have cal : u.cal = k := by rw [← hu]; rfl
  have slots : u.slots = s.slots := by rw [← hu]; rfl
  have flag := u.evaluateCut_cut c
  by_cases low : (u.stock.get c).book ≤ u.cal.dead.get c <;> cases was : (u.stock.get c).cut
  case neg.false | pos.true =>
    have same : u.evaluateCut c = u := State.evaluateCut_of_agrees (by simp [low, was])
    rw [same] at flag ⊢
    refine Moves.refigured c (f (s.stock.get c)) k s.pumps kq figures (fun inv => ?_) (hu ▸ Moves.refl _)
    refine inv.of_comp c ⟨by simp [flag], fun set h hc => ?_⟩ (fun d hd => ?_) fun h _ => by
      rw [State.slotState, slots]; rfl
    · rw [State.slotState, slots]
      exact (inv c).2 (by simpa [stock, cut] using set) h hc
    · exact ⟨by simp [stock, hd], by rw [cal]; exact dead d hd⟩
  case pos.false =>
    have sets := State.evaluateCut_of_low low was
    rw [sets] at flag ⊢
    refine Moves.refigured c { f (s.stock.get c) with cut := true } k
      (s.pumps.set c { s.pumps.get c with runOn := none }) kq figures (fun inv => ?_) ?_
    · refine inv.of_comp c ⟨by simp [low], fun _ h hc => State.closeForCut_stops hc⟩ (fun d hd => ?_)
        fun h hc => ?_
      · exact ⟨by simp [stock, hd], by simpa [cal] using dead d hd⟩
      · refine (State.closeForCut_slotState_ne hc).trans ?_
        simp [State.slotState, slots]
    · refine Moves.comp (Moves.raise .stockCut) ?_
      subst hu
      simpa [State.modStock, State.modPump] using Moves.closeForCut awake c
  case neg.true =>
    have clears := State.evaluateCut_of_high low was
    rw [clears] at flag ⊢
    refine Moves.refigured c { f (s.stock.get c) with cut := false } k s.pumps kq figures (fun inv => ?_) ?_
    · refine inv.of_comp c ⟨by simp [low], fun set => absurd set (by simp)⟩ (fun d hd => ?_) fun h _ => ?_
      · exact ⟨by simp [stock, hd], by simpa [cal] using dead d hd⟩
      · simp [State.slotState, slots]
    · refine Moves.comp (Moves.raise .stockCut) ?_
      subst hu
      simpa [State.modStock] using Moves.refl _

end Sys2Proof.Machine
end

section
/-! The operations of the Stock, Receipt and Roster Units keep the invariants. -/

namespace Sys2Proof.Machine

open Sys2Proof

variable {a : Prop} {s t u : State}

/-! ### Stock and gauges -/

theorem counterModulus_pos : 0 < counterModulus := by decide

theorem toNat_emod_lt (x : Int) : (x % counterModulus).toNat < counterModulus := by
  have pos : (0 : Int) < counterModulus := by decide
  have low := Int.emod_nonneg x pos.ne'
  have high := Int.emod_lt_of_pos x pos
  omega

theorem Moves.debitStock (awake : a) (c : Comp) (n before : Nat) : Moves a s (s.debitStock c n before) := by
  refine Moves.ite (fun _ => Moves.refl s) fun _ => Moves.comp (Moves.restockIfFell c before)
    (Moves.evaluateCut awake c _ s.cal rfl (fun _ _ => rfl) rfl ?_)
  rintro ⟨low, high, credited, adjusted, -⟩
  refine ⟨le_max_left _ _, max_le ?_ ?_, credited, adjusted, Nat.mod_lt _ counterModulus_pos⟩
  · simp [bookLimit]
  · omega

theorem clampInt_bounds {lo hi : Int} (h : lo ≤ hi) (v : Int) : lo ≤ clampInt lo hi v ∧ clampInt lo hi v ≤ hi := by
  unfold clampInt
  split
  · omega
  · split <;> omega

theorem Moves.creditStock (awake : a) (c : Comp) (credit : Int) : Moves a s (s.creditStock c credit) := by
  refine Moves.comp (Moves.restockIfFell c _) (Moves.comp (Moves.rearmTest c)
    (Moves.evaluateCut awake c _ s.cal rfl (fun _ _ => rfl) rfl ?_))
  rintro ⟨-, -, -, adjusted, dispensed⟩
  have bounds := clampInt_bounds (lo := -bookLimit) (hi := bookLimit) (by decide) ((s.stock.get c).book + credit)
  exact ⟨bounds.1, bounds.2, toNat_emod_lt _, adjusted, dispensed⟩

theorem Moves.modGauge (c : Comp) (f : Gauge → Gauge) : Moves a s (s.modGauge c f) := Moves.quiet ..

theorem Moves.receiptGauge (normal : s.supply = .normal → a) (c : Comp) (entered : Bool) :
    Moves a s (s.receiptGauge c entered) := by
  unfold State.receiptGauge
  split
  · next isNormal _ => exact Moves.modReceipt c _ (.inl (normal (by simpa [State.isNormal] using isNormal)))
  · exact Moves.refl s

theorem Moves.reviewGauge (normal : s.supply = .normal → a) (c : Comp) : Moves a s (s.reviewGauge c) := by
  have told (t : State) (same : t.supply = s.supply) (entered : Bool) : Moves a t (t.receiptGauge c entered) :=
    Moves.receiptGauge (fun n => normal (same ▸ n)) c entered
  refine Moves.ite (fun _ => Moves.refl s) fun _ => Moves.comp (Moves.raise _) (Moves.ite (fun _ => ?_) fun _ =>
    Moves.ite (fun _ => ?_) fun _ => Moves.modGauge c _)
  all_goals exact Moves.comp (told _ (by rfl) _) (Moves.comp (Moves.modGauge c _) (Moves.modGauge c _))

theorem Moves.reviewGauges (normal : s.supply = .normal → a) : Moves a s s.reviewGauges :=
  have first := Moves.reviewGauge normal .a
  first.trans (Moves.reviewGauge (fun n => normal (first.supply ▸ n)) .b)

theorem Moves.holdReading (c : Comp) (f : GaugeFrame) : Moves a s (s.holdReading c f) :=
  Moves.ite (fun _ => Moves.modGauge c _) fun _ => Moves.refl s

theorem Moves.checkVariance (c : Comp) : Moves a s (s.checkVariance c) := by
  unfold State.checkVariance
  split
  · exact Moves.ite (fun _ => Moves.comp (Moves.raise _) (Moves.modGauge c _)) fun _ => Moves.modGauge c _
  · exact Moves.refl s

theorem Moves.checkVariances : Moves a s s.checkVariances :=
  Moves.comp (Moves.checkVariance .b) (Moves.checkVariance .a)

/-! ### Receipt Unit -/

theorem Moves.enterSettling (awake : a) (c : Comp) : Moves a s (s.enterSettling c) :=
  Moves.comp (Moves.raise _) (Moves.modReceipt c _ (.inl awake))

theorem Moves.endFill (awake : a) (c : Comp) : Moves a s (s.endFill c) :=
  Moves.comp (Moves.enterSettling awake c) (Moves.modReceipt c _ (.inl awake))

theorem Moves.tripFill (awake : a) (c : Comp) : Moves a s (s.tripFill c) :=
  Moves.comp (Moves.endFill awake c) (Moves.modReceipt c _ (.inl awake))

theorem Moves.abortFill (awake : a) (c : Comp) : Moves a s (s.abortFill c) :=
  Moves.comp (Moves.endFill awake c) (Moves.modReceipt c _ (.inl awake))

theorem Moves.cancelReceipt (awake : a) (c : Comp) : Moves a s (s.cancelReceipt c) :=
  Moves.comp (Moves.checkVariance c) (Moves.comp (Moves.raise _)
    (Moves.comp (Moves.modReceipt c _ (.inl awake)) (Moves.releaseSlot _)))

theorem Moves.countDispensed (c : Comp) (n : Nat) : Moves a s (s.countDispensed c n) := by
  unfold State.countDispensed
  split
  · exact Moves.modReceipt_same c _ rfl rfl
  · exact Moves.modReceipt_same c _ rfl rfl
  · exact Moves.refl s

theorem Moves.takeOpening (awake : a) (c : Comp) : Moves a s (s.takeOpening c) := by
  refine Moves.ite (fun _ => Moves.comp (Moves.raise _) (Moves.comp (Moves.tripFill awake c) ?_)) fun _ =>
    Moves.ite (fun _ => Moves.comp (Moves.abortFill awake c) ?_) fun _ =>
      Moves.comp (Moves.raise _) (Moves.comp (Moves.modReceipt_same c _ rfl rfl) ?_)
  all_goals exact Moves.modReceipt c _ (.inl awake)

theorem Moves.closeReceipt (awake : a) (c : Comp) (credit : Int) : Moves a s (s.closeReceipt c credit) :=
  Moves.comp (Moves.checkVariance c) (Moves.comp (Moves.raise _) (Moves.comp (Moves.modReceipt_same c _ rfl rfl)
    (Moves.comp (Moves.convertSlot awake _ _) (Moves.comp (Moves.modReceipt c _ (.inl awake))
      (Moves.creditStock awake c credit)))))

theorem Moves.takeClosing (awake : a) (c : Comp) : Moves a s (s.takeClosing c) :=
  Moves.comp (Moves.closeReceipt awake c _) (Moves.modReceipt_same c _ rfl rfl)

theorem Moves.closeUnavailable (awake : a) (c : Comp) : Moves a s (s.closeUnavailable c) :=
  Moves.comp (Moves.closeReceipt awake c _) (Moves.modReceipt_same c _ rfl rfl)

theorem Moves.continueReceipt (awake : a) (c : Comp) (saved : Receipt) : Moves a s (s.continueReceipt c saved) := by
  have load : Moves a s (s.modReceipt c fun _ => saved) := Moves.modReceipt c _ (.inl awake)
  unfold State.continueReceipt
  cases saved.state with
  | closed => exact Moves.refl s
  | opening => exact Moves.comp (Moves.raise _) (Moves.comp (Moves.modReceipt c _ (.inl awake)) load)
  | filling => exact Moves.comp (Moves.endFill awake c) load
  | settling => exact Moves.comp (Moves.enterSettling awake c) load

/-! ### The cache -/

theorem Roster.entryAt_putEntry (r : Roster) (w v : WayRef) (e : Option Entry) :
    (r.putEntry w e).entryAt v = if v = w then e else r.entryAt v := by
  obtain ⟨i, k⟩ := w
  obtain ⟨j, l⟩ := v
  simp only [Roster.entryAt, Roster.putEntry, Roster.modSet, CacheSet.putWay, Vector.get_eq_getElem,
    Vector.getElem_set, WayRef.mk.injEq, Fin.ext_iff]
  by_cases hi : j.val = i.val
  · by_cases hk : l.val = k.val
    · simp [hi, hk]
    · simp [hi, Ne.symm hk, hk]
  · simp [Ne.symm hi, hi]

theorem CacheSet.touch_ways (c : CacheSet) (w : Fin 4) : (c.touch w).ways = c.ways := by
  unfold CacheSet.touch
  split <;> rfl

theorem Roster.entryAt_touch (r : Roster) (w v : WayRef) : (r.touch w).entryAt v = r.entryAt v := by
  simp only [Roster.entryAt, Roster.touch, Roster.modSet, Vector.get_eq_getElem, Vector.getElem_set]
  split
  · next h => simp [CacheSet.touch_ways, h]
  · rfl

theorem Roster.placed_congr {r r' : Roster} (same : ∀ w, r'.entryAt w = r.entryAt w) (h : r.placed) : r'.placed := by
  simpa only [Roster.placed, same] using h

theorem Roster.placed.touch {r : Roster} (h : r.placed) (w : WayRef) : (r.touch w).placed :=
  Roster.placed_congr (r.entryAt_touch w) h

/-- The machine of a way's entry. -/
theorem Roster.findWay_some {r : Roster} {m : Nat} {w : WayRef} (found : r.findWay m = some w) :
    w.setIx = machineSet m ∧ ∃ e, r.entryAt w = some e ∧ e.body.machine = m := by
  simp only [Roster.findWay, Option.map_eq_some_iff] at found
  obtain ⟨k, hk, rfl⟩ := found
  have holds := List.find?_some hk
  refine ⟨rfl, ?_⟩
  unfold Roster.entryAt
  cases e : (r.cache.get (machineSet m)).ways.get k with
  | none => simp [e, holdsMachine] at holds
  | some x => exact ⟨x, rfl, by simpa [e, holdsMachine] using holds⟩

theorem mem_allWays (w : Fin 4) : w ∈ allWays := by revert w; decide

/-- A machine that is not found has no entry in its set. -/
theorem Roster.findWay_none {r : Roster} {m : Nat} (missing : r.findWay m = none) (w : Fin 4) {e : Entry}
    (at_w : r.entryAt ⟨machineSet m, w⟩ = some e) : e.body.machine ≠ m := by
  simp only [Roster.findWay, Option.map_eq_none_iff, List.find?_eq_none] at missing
  have := missing w (mem_allWays w)
  simp only [Roster.entryAt] at at_w
  simpa [at_w, holdsMachine] using this

/-- An entry put into a way of its set keeps the cache placed where no other way holds its machine. -/
theorem Roster.placed.put {r : Roster} (h : r.placed) (w : WayRef) (e : Option Entry)
    (new : ∀ x, e = some x → x.inSet w.setIx
      ∧ ∀ v f, r.entryAt ⟨w.setIx, v⟩ = some f → f.body.machine = x.body.machine → v = w.way) :
    (r.putEntry w e).placed := by
  intro i k x at_k
  rw [Roster.entryAt_putEntry] at at_k
  by_cases here : (⟨i, k⟩ : WayRef) = w
  · subst here
    rw [if_pos rfl] at at_k
    obtain ⟨inSet, alone⟩ := new x at_k
    refine ⟨inSet, fun v f at_v same => ?_⟩
    rw [Roster.entryAt_putEntry] at at_v
    by_cases hv : (⟨i, v⟩ : WayRef) = ⟨i, k⟩
    · exact (WayRef.mk.inj hv).2
    · rw [if_neg hv] at at_v
      exact alone v f at_v same
  · rw [if_neg here] at at_k
    obtain ⟨inSet, alone⟩ := h i k x at_k
    refine ⟨inSet, fun v f at_v same => ?_⟩
    rw [Roster.entryAt_putEntry] at at_v
    by_cases hv : (⟨i, v⟩ : WayRef) = w
    · subst hv
      rw [if_pos rfl] at at_v
      exact ((new f at_v).2 k x at_k same.symm).symm
    · rw [if_neg hv] at at_v
      exact alone v f at_v same

theorem Roster.placed.clear {r : Roster} (h : r.placed) (w : WayRef) : (r.putEntry w none).placed :=
  h.put w none fun _ e => absurd e (by simp)

/-- An entry replaced in its way by one of the same machine. -/
theorem Roster.placed.replace {r : Roster} (h : r.placed) {w : WayRef} {e : Entry} (at_w : r.entryAt w = some e)
    {x : Entry} (machine : x.body.machine = e.body.machine)
    (staged : ∀ b, x.pendingUpdate = some (.replace b) → b.machine = e.body.machine) :
    (r.putEntry w (some x)).placed := by
  obtain ⟨inSet, alone⟩ := h w.setIx w.way e at_w
  refine h.put w _ fun y hy => ?_
  cases hy
  exact ⟨⟨by rw [machine]; exact inSet.1, fun b hb => (staged b hb).trans machine.symm⟩,
    fun v f at_v same => alone v f at_v (same.trans machine)⟩

theorem Roster.placed.fill {r : Roster} (h : r.placed) (b : EntryBody) (origin : Origin)
    (missing : r.findWay b.machine = none) : (r.fill b origin).placed := by
  refine Roster.placed.touch (h.put _ _ fun x hx => ?_) _
  cases hx
  exact ⟨⟨rfl, fun _ hb => absurd hb (by simp)⟩, fun v f at_v same => absurd same (Roster.findWay_none missing v at_v)⟩

theorem Roster.placed.load {r : Roster} (h : r.placed) (b : EntryBody) : (r.load b).placed := by
  unfold Roster.load
  split
  · next missing => exact h.fill b .roster missing
  · next w found =>
    obtain ⟨-, e, at_w, machine⟩ := Roster.findWay_some found
    simp only [at_w]
    split
    · exact Roster.placed.touch (h.replace at_w machine.symm fun _ hb => absurd hb (by simp)) w
    · refine h.replace at_w rfl fun b' hb => ?_
      cases hb
      exact machine.symm

theorem Roster.placed.dropMachine {r : Roster} (h : r.placed) (m : Nat) : (r.dropMachine m).placed := by
  unfold Roster.dropMachine
  split
  · exact h
  · next w found =>
    obtain ⟨-, e, at_w, -⟩ := Roster.findWay_some found
    simp only [at_w]
    split
    · exact h.clear w
    · exact h.replace at_w rfl fun _ hb => absurd hb (by simp)

/-- The entry at a way, with its staged replacement of the same machine. -/
theorem Roster.placed.staged {r : Roster} (h : r.placed) {w : WayRef} {e : Entry} (at_w : r.entryAt w = some e) :
    ∀ b, e.pendingUpdate = some (.replace b) → b.machine = e.body.machine := (h w.setIx w.way e at_w).1.2

theorem Roster.placed.pin {r : Roster} (h : r.placed) (w : WayRef) : (r.pin w).placed := by
  unfold Roster.pin
  split
  · exact h
  · next e at_w => exact h.replace at_w rfl fun b hb => h.staged at_w b hb

theorem Roster.settled_machine {r : Roster} {e x : Entry}
    (staged : ∀ b, e.pendingUpdate = some (.replace b) → b.machine = e.body.machine)
    (settles : r.settled e = some x) :
    x.body.machine = e.body.machine ∧ x.pendingUpdate = none := by
  unfold Roster.settled at settles
  split at settles
  · next b hb => cases settles; exact ⟨staged b hb, rfl⟩
  · cases settles
  · next hn =>
    split at settles
    · cases settles
    · cases settles; exact ⟨rfl, hn⟩

theorem Roster.placed.unpin {r : Roster} (h : r.placed) (w : WayRef) : (r.unpin w).placed := by
  unfold Roster.unpin
  split
  · exact h
  · next e at_w =>
    split
    · cases settles : r.settled e with
      | none => exact h.clear w
      | some x =>
        obtain ⟨machine, none_staged⟩ := Roster.settled_machine (h.staged at_w) settles
        exact h.replace at_w machine fun b hb => absurd (none_staged.symm.trans hb) (by simp)
    · exact h.replace at_w rfl fun b hb => h.staged at_w b hb

theorem Roster.placed.of_cache {r r' : Roster} (h : r.placed) (same : r'.cache = r.cache) : r'.placed :=
  Roster.placed_congr (fun w => by simp only [Roster.entryAt, same]) h

theorem Roster.placed.modUsage {r : Roster} (h : r.placed) (m : Nat) (f : UsageEntry → UsageEntry) :
    (r.modUsage m f).placed := h.of_cache rfl

theorem Roster.placed.modAccount {r : Roster} (h : r.placed) (i : Fin 32) (f : Account → Account) :
    (r.modAccount i f).placed := h.of_cache rfl

theorem Roster.placed.updateHours {r : Roster} (h : r.placed) (w : Option WayRef) (m v : Nat) :
    (r.updateHours w m v).placed := by
  unfold Roster.updateHours
  refine Roster.placed.modUsage ?_ m _
  split
  · exact h
  · split
    · exact h
    · next e at_w => exact h.replace at_w rfl fun b hb => h.staged at_w b hb

theorem Roster.entryAt_rollover (r : Roster) (day : Nat) (w : WayRef) :
    (r.rollover day).entryAt w = (r.entryAt w).map clearUsedElsewhere := by
  simp [Roster.entryAt, Roster.rollover, Vector.get_eq_getElem]

theorem clearUsedElsewhere_replace {e : Entry} {b : EntryBody}
    (staged : (clearUsedElsewhere e).pendingUpdate = some (.replace b)) :
    ∃ b', e.pendingUpdate = some (.replace b') ∧ b.machine = b'.machine := by
  revert staged
  simp only [clearUsedElsewhere]
  split
  · next b' hb => intro hx; cases hx; exact ⟨b', hb, rfl⟩
  · next other => intro hx; exact absurd hx (other b)

theorem Roster.placed.rollover {r : Roster} (h : r.placed) (day : Nat) : (r.rollover day).placed := by
  intro i w x at_w
  rw [Roster.entryAt_rollover, Option.map_eq_some_iff] at at_w
  obtain ⟨e, at_e, rfl⟩ := at_w
  obtain ⟨⟨set, staged⟩, alone⟩ := h i w e at_e
  refine ⟨⟨set, fun b hb => ?_⟩, fun v f at_v same => ?_⟩
  · obtain ⟨b', hb', machine⟩ := clearUsedElsewhere_replace hb
    exact machine.trans (staged b' hb')
  · rw [Roster.entryAt_rollover, Option.map_eq_some_iff] at at_v
    obtain ⟨f', at_f, rfl⟩ := at_v
    exact alone v f' at_f same

/-! ### Roster Unit -/

theorem Moves.useUsage (m : Nat) : Moves a s (s.useUsage m) :=
  Moves.ite (fun _ => Moves.refl s) fun _ => Moves.ite (fun _ => Moves.raise _) fun _ => Moves.modRoster_cache _ rfl

theorem Moves.releaseEntry (w : Option WayRef) : Moves a s (s.releaseEntry w) := by
  cases w with
  | none => exact Moves.refl s
  | some w => exact Moves.modRoster (fun r => r.unpin w) fun h => h.unpin w

theorem Moves.requestMachine (h : Hose) (m : Nat) : Moves a s (s.requestMachine h m) :=
  Moves.ite (fun _ => Moves.modRoster_cache _ rfl) fun _ => Moves.comp (Moves.raise _) (Moves.modRoster_cache _ rfl)

theorem Moves.checkRollover : Moves a s s.checkRollover :=
  Moves.ite (fun _ => Moves.comp (Moves.raise _) (Moves.modRoster _ fun h => h.rollover _)) fun _ => Moves.refl s

theorem Roster.placed.charge {r : Roster} (h : r.placed) (m : Nat) (i : Fin 32) (day charge net amount : Nat) :
    (r.charge m i day charge net amount).placed := by
  refine Roster.placed.modAccount ?_ i _
  split
  · exact (h.modUsage m _).modAccount i _
  · exact h

theorem Roster.placed.completed {r : Roster} (h : r.placed) (w : Option WayRef) (k : Completion) :
    ((r.chargeCompletion k).hoursCompletion w k).placed := by
  have charged : (r.chargeCompletion k).placed := by
    unfold Roster.chargeCompletion
    split
    · exact Roster.placed.charge h _ _ _ _ _ _
    · exact h
  unfold Roster.hoursCompletion
  split
  · split
    · exact charged
    · exact charged.updateHours w _ _
  · exact charged

end Sys2Proof.Machine
end

section
/-! The operations of the Transaction, Identification and Meter Units keep the invariants. -/

namespace Sys2Proof.Machine

open Sys2Proof

variable {a : Prop} {s t u : State}

/-! ### Transaction Unit -/

theorem SlotState.not_authorised_of_waiting {st : SlotState} (w : st.waiting = true) : st.authorised = false := by
  revert w; cases st <;> simp [SlotState.waiting, SlotState.authorised]

/-- What an accepted verdict has checked. -/
theorem State.verdict_ok_checks {h : Hose} {e : Entry} {v : AuthorisedVolume} (ok : s.verdict h e = .ok v) :
    ∀ k ∈ s.refusalChecks h e.body, k.1 = false := by
  unfold State.verdict at ok
  split at ok
  · cases ok
  · next none_fails =>
    simpa [firstFailing, Option.map_eq_none_iff, List.find?_eq_none] using none_fails

theorem State.verdict_ok_uncut {h : Hose} {e : Entry} {v : AuthorisedVolume} (ok : s.verdict h e = .ok v) :
    (s.stock.get (hoseComp h)).cut = false :=
  State.verdict_ok_checks ok ((s.stock.get (hoseComp h)).cut, .deadStock) (by simp [State.refusalChecks])

theorem State.verdict_ok_free {h : Hose} {e : Entry} {v : AuthorisedVolume} (ok : s.verdict h e = .ok v) :
    s.journal.free ≠ 0 := by
  simpa using State.verdict_ok_checks ok (s.journal.free == 0, .journalFull) (by simp [State.refusalChecks])

/-- A slot and its channel change together: bound exactly where the transaction is active (R1), and running only in a
compartment that is not cut (R121). -/
theorem Moves.slotAndChan (h : Hose) (x : Slot) (c : Channel) (bound : c.bound = x.state.authorised)
    (runs : x.state.running = true → (s.stock.get (hoseComp h)).cut = false)
    (inRange : 200 ≤ s.cal.kq.get h → (s.chan.get h).inRange (s.cal.kq.get h) → c.inRange (s.cal.kq.get h))
    (gross : c.grossTotalizer = (s.chan.get h).grossTotalizer)
    (net : c.netTotalizer = (s.chan.get h).netTotalizer) :
    Moves a s { s with slots := s.slots.set h x, chan := s.chan.set h c } := by
  have binds (inv : s.BoundInv) (k : Hose) :
      ((s.chan.set h c).get k).bound = ((s.slots.set h x).get k).state.authorised := by
    rw [PerHose.get_set, PerHose.get_set]
    split
    · exact bound
    · exact inv k
  exact
    { pending := rfl
      cut := fun inv d => ⟨(inv d).1, fun cut k hk => by
        rw [State.slotState, PerHose.get_set]
        split
        · next here =>
          subst here hk
          exact Bool.eq_false_iff.2 fun run => absurd cut (by rw [runs run]; decide)
        · exact (inv d).2 cut k hk⟩
      bound := binds
      meter := fun inv => ⟨binds inv.1, PerHose.forall_set
        (P := fun k (y : Channel) => 200 ≤ s.cal.kq.get k ∧ s.cal.kq.get k ≤ 20000 ∧ y.inRange (s.cal.kq.get k))
        inv.2 fun ⟨low, high, range⟩ => ⟨low, high, inRange low range⟩⟩
      cache := id
      stock := fun ⟨live, saved, totals, savedTotals⟩ => ⟨live, saved, PerHose.forall_set
        (P := fun _ (y : Channel) => y.grossTotalizer < totalizerModulus ∧ y.netTotalizer < totalizerModulus)
        totals (by rw [gross, net]; exact id), savedTotals⟩
      sound := id
      supply := rfl
      save := rfl
      asleep := fun _ => ⟨rfl, rfl, id⟩ }

theorem Channel.bind_inRange {c : Channel} {kq : Nat} (low : 200 ≤ kq) (range : c.inRange kq) :
    (c.bind kq).inRange kq := by
  obtain ⟨-, context, -, -, unmetered⟩ := range
  exact ⟨fun _ => ⟨rfl, by simp only [Channel.bind, TxnContext.fresh]; omega⟩, context, Nat.zero_le _,
    Nat.zero_le _, unmetered⟩

/-- A channel binds with the calibrated factor as its slot becomes READY, in a compartment that is not cut (R1). -/
theorem Moves.bindReady (h : Hose) (uncut : (s.stock.get (hoseComp h)).cut = false) :
    Moves a s ((s.modChan h fun c => c.bind (s.cal.kq.get h)).setSlotState h .ready) := by
  obtain ⟨pumps, logoff, ports, e⟩ := (s.modChan h fun c => c.bind (s.cal.kq.get h)).setSlotState_frame h .ready
  rw [e]
  exact (Moves.slotAndChan h { s.slots.get h with state := .ready } _ rfl (fun _ => uncut) Channel.bind_inRange
    rfl rfl).trans (Moves.quiet ..)

theorem State.reserveSlot_stock (k : Holder) : (s.reserveSlot k).stock = s.stock := by
  unfold State.reserveSlot
  obtain ⟨_, _, e⟩ := State.noteFree_frame (s.modJournal fun j =>
    { j with register := j.register.put k (some !s.clock.valid) }) s.journal.free
  rw [e]; rfl

theorem State.reserveSlot_cal (k : Holder) : (s.reserveSlot k).cal = s.cal := by
  unfold State.reserveSlot
  obtain ⟨_, _, e⟩ := State.noteFree_frame (s.modJournal fun j =>
    { j with register := j.register.put k (some !s.clock.valid) }) s.journal.free
  rw [e]; rfl

theorem State.reserveSlot_slots (k : Holder) : (s.reserveSlot k).slots = s.slots := by
  unfold State.reserveSlot
  obtain ⟨_, _, e⟩ := State.noteFree_frame (s.modJournal fun j =>
    { j with register := j.register.put k (some !s.clock.valid) }) s.journal.free
  rw [e]; rfl

/-- The day usage writes the roster and the ports (R86). -/
theorem State.useUsage_frame (m : Nat) :
    s.useUsage m = { s with roster := (s.useUsage m).roster, ports := (s.useUsage m).ports } := by
  unfold State.useUsage
  split
  · rfl
  · split <;> rfl

theorem Moves.authorise (awake : a) (h : Hose) (e : Entry) (v : AuthorisedVolume)
    (uncut : (s.stock.get (hoseComp h)).cut = false) (free : s.journal.free ≠ 0) :
    Moves a s (s.authorise h e v) := by
  unfold State.authorise
  refine Moves.comp (Moves.compareVolume awake h) (Moves.comp (Moves.restockIfFell _ _) ?_)
  generalize hr : (s.reserveSlot (.hose h)).useUsage e.body.machine = r
  have begun : Moves a s r :=
    hr ▸ Moves.comp (Moves.useUsage e.body.machine) (Moves.reserveSlot (.hose h) free)
  have slots : r.slots = s.slots := by rw [← hr, State.useUsage_frame]; exact State.reserveSlot_slots _
  have stock : r.stock = s.stock := by rw [← hr, State.useUsage_frame]; exact State.reserveSlot_stock _
  have cal : r.cal = s.cal := by rw [← hr, State.useUsage_frame]; exact State.reserveSlot_cal _
  have latched := begun.trans (Moves.comp
    (Moves.modTracking h (fun _ =>
      { running := (s.slots.get h).method == some .tag, misses := 0, restoreWindow := none }) (.inl awake))
    (Moves.comp (Moves.modHoseCtl h (fun c => c.startTransaction s.depot (s.timer 60000)) (.inl awake))
      (Moves.modSlot h (fun _ => s.authorisedSlot h e v) (by simp [State.slotState, slots, State.authorisedSlot]))))
  refine latched.trans ?_
  rw [← cal]
  exact Moves.bindReady h (by rw [← uncut, ← stock]; rfl)

theorem Moves.refuse (h : Hose) (reason : RefusalReason) (inactive : (s.slotState h).authorised = false) :
    Moves a s (s.refuse h reason) := by
  have released : (s.releaseEntry (s.slots.get h).entry).slots = s.slots := by
    cases (s.slots.get h).entry <;> rfl
  refine Moves.comp (Moves.setInactive h rfl ?_) (Moves.comp (Moves.modSlot h _ rfl) (Moves.releaseEntry _))
  simpa [State.slotState, Slot.refused, released] using inactive

/-- An attempt of a slot before READY. -/
theorem Moves.attempt (awake : a) (h : Hose) (inactive : (s.slotState h).authorised = false) :
    Moves a s (s.attempt h) := by
  unfold State.attempt
  cases s.slotEntry h with
  | none => exact Moves.refl s
  | some e =>
    dsimp only
    cases verdict : s.verdict h e with
    | error reason =>
      refine Moves.comp (Moves.refuse h reason ?_) (Moves.modSlot h _ rfl)
      simpa [State.slotState] using inactive
    | ok v =>
      have uncut := State.verdict_ok_uncut verdict
      have free := State.verdict_ok_free verdict
      exact Moves.comp (Moves.authorise awake h e v uncut free) (Moves.modSlot h _ rfl)

theorem Moves.lookupCompleted (awake : a) (h : Hose) (inactive : (s.slotState h).authorised = false) :
    Moves a s (s.lookupCompleted h) := by
  unfold State.lookupCompleted
  cases s.slotEntry h with
  | none => exact Moves.refl s
  | some e =>
    refine Moves.ite (fun _ => Moves.comp (Moves.setInactive h rfl ?_) (Moves.modSlot h _ rfl)) fun _ =>
      Moves.attempt awake h inactive
    simpa [State.slotState] using inactive

theorem Moves.giveEntry (awake : a) (h : Hose) (w : WayRef) (inactive : (s.slotState h).authorised = false) :
    Moves a s (s.giveEntry h w) := by
  refine Moves.comp (Moves.lookupCompleted awake h ?_) (Moves.comp (Moves.modSlot h _ rfl)
    (Moves.modRoster (fun r => r.pin w) fun placed => placed.pin w))
  simpa [State.slotState] using inactive

theorem Moves.lookup (awake : a) (h : Hose) (m : Nat) (inactive : (s.slotState h).authorised = false) :
    Moves a s (s.lookup h m) := by
  unfold State.lookup
  split
  · next w _ =>
    exact Moves.comp (Moves.giveEntry awake h w inactive)
      (Moves.modRoster (fun r => r.touch w) fun placed => placed.touch w)
  · refine Moves.comp (Moves.requestMachine h m) (Moves.comp (Moves.setInactive h rfl ?_) (Moves.modSlot h _ rfl))
    simpa [State.slotState] using inactive

theorem Moves.identify (awake : a) (h : Hose) (i : Identification) (inactive : (s.slotState h).authorised = false) :
    Moves a s (s.identify h i) := by
  refine Moves.comp (Moves.lookup awake h _ ?_) (Moves.modSlot h _ rfl)
  simpa [State.slotState] using inactive

theorem Moves.setHours (awake : a) (h : Hose) (v : EngineHours) : Moves a s (s.setHours h v) := by
  refine Moves.ite (fun waits => Moves.comp (Moves.attempt awake h ?_) (Moves.modSlot h _ rfl)) fun _ =>
    Moves.modSlot h _ rfl
  simp only [State.modSlot, State.slotState, PerHose.get_set_same] at waits ⊢
  rw [waits]; rfl

theorem Moves.serveOverride (awake : a) (h : Hose) : Moves a s (s.serveOverride h) := by
  unfold State.serveOverride
  split
  · next m waits _ =>
    have inactive : ((s.modSlot h fun x => { x with method := some .override }).slotState h).authorised = false := by
      simp only [State.modSlot, State.slotState, PerHose.get_set_same] at waits ⊢
      rw [waits]; rfl
    dsimp only
    split
    · next w _ => exact Moves.comp (Moves.giveEntry awake h w inactive) (Moves.modSlot h _ rfl)
    · next missing =>
      have filled := Moves.trans (a := a) (Moves.modSlot (s := s) h (fun x => { x with method := some .override }) rfl)
        ((Moves.modRoster (s := s.modSlot h fun x => { x with method := some .override }) (fun r => r.fill (provisionalBody r.site m) .provisional)
          fun placed => placed.fill _ _ missing).trans (Moves.raise .provisional))
      split
      · next w _ => exact Moves.comp (Moves.giveEntry awake h w inactive) filled
      · exact filled
  · exact Moves.refl s

theorem Moves.serveOverrides (awake : a) : Moves a s s.serveOverrides :=
  Moves.comp (Moves.serveOverride awake .h3) (Moves.comp (Moves.serveOverride awake .h2) (Moves.serveOverride awake .h1))

/-- A slot leaves LOOKUP for OVERRIDE_WAIT; it is served at once only under an open supervisor window. -/
theorem Moves.enterOverrideWait (h : Hose) (inactive : (s.slotState h).authorised = false)
    (window : s.supervisor.isSome = true → a) : Moves a s (s.enterOverrideWait h) := by
  have waits : Moves a s ((s.modSlot h fun x =>
      { x with identTimer := none, overrideTimer := if s.isNormal then s.timer 60000 else none }).setSlotState
        h .overrideWait) := by
    refine Moves.comp (Moves.setInactive h rfl ?_) (Moves.modSlot h _ rfl)
    simpa [State.slotState] using inactive
  exact Moves.ite (fun isOpen => Moves.comp (Moves.serveOverride (window isOpen) h) waits) fun _ => waits

/-- The channel of a hose whose slot returns to IDLE (R1). -/
def Channel.released (c : Channel) : Channel := if c.bound then c.unbind else c

/-- The return to IDLE writes the hose's slot, reader, tracking and channel, the pumps, the logoff timer and the
ports. -/
theorem State.toIdle_frame (h : Hose) :
    ∃ pumps logoff ports, s.toIdle h =
      { s with
        slots := s.slots.set h Slot.fresh, nozzleReader := s.nozzleReader.set h (s.nozzleReader.get h).powerOff
        pendingTag := s.pendingTag.set h false, tracking := s.tracking.set h Tracking.off
        chan := s.chan.set h (s.chan.get h).released, pumps := pumps, logoffTimer := logoff, ports := ports } := by
  obtain ⟨pumps, logoff, ports, e⟩ := State.setSlotState_frame
    (((((s.modSlot h fun x => { Slot.fresh with state := x.state }).modReader (.nr h) fun r =>
      r.powerOff).setPendingTag h false).modTracking h fun _ => Tracking.off).modChan h Channel.released) h .idle
  refine ⟨pumps, logoff, ports, (show s.toIdle h = _ from e).trans ?_⟩
  simp [State.modSlot, State.modReader, State.setPendingTag, State.modTracking, State.modChan, Slot.fresh]

theorem Channel.released_inRange {c : Channel} {kq : Nat} (range : c.inRange kq) : c.released.inRange kq := by
  obtain ⟨-, context, debt, errors, unmetered⟩ := id range
  unfold Channel.released
  split
  · exact ⟨fun on => absurd on (by simp [Channel.unbind]), context, Nat.zero_le _, Nat.zero_le _, unmetered⟩
  · exact range

theorem Channel.released_bound (c : Channel) : c.released.bound = false := by
  unfold Channel.released
  split
  · rfl
  · next off => exact Bool.eq_false_iff.2 off

theorem Channel.released_totals (c : Channel) :
    c.released.grossTotalizer = c.grossTotalizer ∧ c.released.netTotalizer = c.netTotalizer := by
  unfold Channel.released
  split <;> exact ⟨rfl, rfl⟩

/-- The return to IDLE unbinds the channel with it (R1). -/
theorem Moves.toIdle (h : Hose) : Moves a s (s.toIdle h) := by
  obtain ⟨pumps, logoff, ports, e⟩ := s.toIdle_frame h
  rw [e]
  obtain ⟨gross, net⟩ := (s.chan.get h).released_totals
  exact ((Moves.slotAndChan h Slot.fresh (s.chan.get h).released (Channel.released_bound _) (fun run => nomatch run)
    (fun _ => Channel.released_inRange) gross net).trans
      (Moves.modTracking h (fun _ => Tracking.off) (.inr fun _ => rfl))).trans (Moves.quiet ..)

theorem Moves.abandon (h : Hose) : Moves a s (s.abandon h) :=
  Moves.ite (fun _ => Moves.comp (Moves.toIdle h) (Moves.comp (Moves.modRoster_cache (·.leaveRequests h) rfl)
    (Moves.releaseEntry _))) fun _ => Moves.refl s

theorem Moves.complete (awake : a) (h : Hose) (k : Completion) : Moves a s (s.complete h k) :=
  Moves.comp (Moves.toIdle h) (Moves.comp (Moves.releaseEntry _)
    (Moves.comp (Moves.modRoster (fun r => (r.chargeCompletion k).hoursCompletion (s.slots.get h).entry k)
      fun placed => placed.completed _ k) (Moves.convertSlot awake _ _)))

/-! ### Identification Unit -/

theorem Moves.modReader (r : Reader) (f : ReaderState → ReaderState) : Moves a s (s.modReader r f) := by
  cases r <;> exact Moves.quiet ..

theorem Moves.setPendingTag (h : Hose) (b : Bool) : Moves a s (s.setPendingTag h b) := Moves.quiet ..

theorem Moves.setTagEvent (r : Reader) (kind : TagEventKind) (n : Option Nat) : Moves a s (s.setTagEvent r kind n) :=
  Moves.comp (Moves.raise _) (Moves.modReader r _)

theorem Moves.discardPending (r : Reader) : Moves a s (s.discardPending r) := by
  cases r with
  | nr h => exact Moves.setPendingTag h false
  | pr => exact Moves.refl s

theorem Moves.enterFault (r : Reader) : Moves a s (s.enterFault r) :=
  Moves.ite (fun _ => Moves.comp (Moves.setTagEvent r _ _) (Moves.comp (Moves.modReader r _) (Moves.discardPending r)))
    fun _ => Moves.refl s

theorem Moves.startQualifying (r : Reader) : Moves a s (s.startQualifying r) := Moves.modReader r _

theorem Moves.endExchange (awake : a) (h : Hose) : Moves a s (s.endExchange h) := by
  unfold State.endExchange
  dsimp only
  split
  · exact Moves.setPendingTag h false
  · refine Moves.ite (fun _ => Moves.ite (fun ident => ?_) fun _ => Moves.setPendingTag h false) fun _ =>
      Moves.ite (fun _ => ?_) fun _ => Moves.refl s
    · exact Moves.comp (Moves.identify awake h _ (by rw [State.slotState] at ident ⊢; rw [State.setPendingTag_slots, ident]; rfl))
        (Moves.setPendingTag h false)
    · split
      · exact Moves.setHours awake h _
      · exact Moves.refl s

theorem Moves.logOn (n : Nat) : Moves a s (s.logOn n) := Moves.comp (Moves.setTagEvent _ _ _) (Moves.quiet ..)

theorem Moves.logOff : Moves a s s.logOff := by
  unfold State.logOff
  split
  · exact Moves.refl s
  · exact Moves.comp (Moves.setTagEvent _ _ _) (Moves.quiet ..)

theorem Moves.openSupervisor (awake : a) (n : Nat) : Moves a s (s.openSupervisor n) :=
  Moves.comp (Moves.serveOverrides awake) (Moves.comp (Moves.setTagEvent _ _ _) (Moves.supervisor _ (.inl awake)))

theorem Moves.acceptMachine (awake : a) (h : Hose) (tag : HeldTag) (b : BasePage) :
    Moves a s (s.acceptMachine h tag b) := by
  have taken : Moves a s (s.modReader (.nr h) fun x => x.accept tag b (pageNextCount b)) := Moves.modReader _ _
  have claimed := taken.trans (Moves.ite
    (c := s.slotState h = .ident ∧ s.pendingTag.get h = false) (fun _ => Moves.setPendingTag h true) fun _ =>
      Moves.ite (c := (s.slotState h).identified ∧ (s.slots.get h).machine ≠ some tag.number)
        (fun _ => Moves.setTagEvent (.nr h) .tagNotUsed (some tag.number)) fun _ => Moves.refl _)
  exact Moves.ite (fun _ => claimed.trans (Moves.endExchange awake h)) fun _ => claimed

theorem Moves.acceptPage (awake : a) (r : Reader) (tag : HeldTag) (b : BasePage) :
    Moves a s (s.acceptPage r tag b) := by
  cases r with
  | nr h => exact Moves.acceptMachine awake h tag b
  | pr =>
    unfold State.acceptPage
    dsimp only
    split
    · exact Moves.comp (Moves.openSupervisor awake _) (Moves.modReader _ _)
    · exact Moves.comp (Moves.logOn _) (Moves.modReader _ _)

theorem Moves.endExchangeOf (awake : a) (r : Reader) : Moves a s (s.endExchangeOf r) := by
  cases r with
  | nr h => exact Moves.endExchange awake h
  | pr => exact Moves.refl s

theorem Moves.breakFetch (awake : a) (r : Reader) : Moves a s (s.breakFetch r) :=
  Moves.ite (fun _ => Moves.refl s) fun _ => Moves.comp (Moves.endExchangeOf awake r) (Moves.modReader r _)

theorem Moves.pageUnanswered (awake : a) (r : Reader) : Moves a s (s.pageUnanswered r) :=
  Moves.ite (fun _ => Moves.refl s) fun _ => Moves.ite (fun _ => Moves.modReader r _) fun _ => Moves.breakFetch awake r

theorem Moves.tagMissed (awake : a) (r : Reader) : Moves a s (s.tagMissed r) :=
  Moves.ite (fun _ => Moves.comp (Moves.modReader r _) (Moves.breakFetch awake r)) fun _ => Moves.modReader r _

theorem Moves.nextPageArrives (awake : a) (r : Reader) (q : NextPage) : Moves a s (s.nextPageArrives r q) :=
  Moves.ite (fun _ => Moves.tagMissed awake r) fun _ =>
    Moves.ite (fun _ => Moves.comp (Moves.endExchangeOf awake r) (Moves.modReader r _)) fun _ => Moves.modReader r _

theorem Moves.basePageHeld (awake : a) (r : Reader) (b : BasePage) : Moves a s (s.basePageHeld r b) := by
  unfold State.basePageHeld
  split
  · exact Moves.comp (Moves.tagMissed awake r) (Moves.pageUnanswered awake r)
  · exact Moves.ite (fun _ => Moves.comp (Moves.pageUnanswered awake r) (Moves.modReader r _)) fun _ =>
      Moves.comp (Moves.tagMissed awake r) (Moves.breakFetch awake r)

theorem Moves.pollPresent (awake : a) (r : Reader) (p : PollAnswer) : Moves a s (s.pollPresent r p) := by
  cases p with
  | noAnswer => exact Moves.comp (Moves.tagMissed awake r) (Moves.pageUnanswered awake r)
  | basePage b k => exact Moves.basePageHeld awake r b
  | nextPage q k => exact Moves.nextPageArrives awake r q
  | collision =>
    exact Moves.comp (Moves.setTagEvent r _ _) (Moves.comp (Moves.tagMissed awake r) (Moves.breakFetch awake r))
  | fault => exact Moves.enterFault r

theorem Moves.pollListening (awake : a) (r : Reader) (p : PollAnswer) : Moves a s (s.pollListening r p) := by
  cases p with
  | noAnswer => exact Moves.refl s
  | basePage b k =>
    unfold State.pollListening
    dsimp only
    split
    · exact Moves.refl s
    · exact Moves.acceptPage awake r _ b
  | nextPage q k => exact Moves.refl s
  | collision => exact Moves.setTagEvent r _ _
  | fault => exact Moves.enterFault r

theorem Moves.loseTag (awake : a) (h : Hose) : Moves a s (s.loseTag h) :=
  Moves.comp (Moves.raise _) (Moves.comp (Moves.addHold awake h _) (Moves.modTracking h _ (.inl awake)))

theorem Moves.restoreTag (awake : a) (h : Hose) : Moves a s (s.restoreTag h) :=
  Moves.comp (Moves.raise _) (Moves.comp (Moves.removeHold awake h _) (Moves.modTracking h _ (.inl awake)))

theorem Moves.trackingMiss (awake : a) (h : Hose) : Moves a s (s.trackingMiss h) :=
  Moves.ite (fun _ => Moves.comp (Moves.loseTag awake h) (Moves.modTracking h _ (.inl awake))) fun _ =>
    Moves.modTracking h _ (.inl awake)

theorem Moves.takePresence (awake : a) (h : Hose) (p : Presence) : Moves a s (s.takePresence h p) := by
  cases p with
  | present =>
    exact Moves.ite (fun _ => Moves.comp (Moves.restoreTag awake h) (Moves.modTracking h _ (.inl awake))) fun _ =>
      Moves.modTracking h _ (.inl awake)
  | miss => exact Moves.trackingMiss awake h
  | mismatch n => exact Moves.comp (Moves.enterClosing awake h _) (Moves.setTagEvent _ _ _)

theorem Moves.pollPresence (awake : a) (before : State) (r : Reader) (p : PollAnswer) :
    Moves a s (s.pollPresence before r p) := by
  cases r with
  | nr h => exact Moves.ite (fun _ => Moves.takePresence awake h _) fun _ => Moves.refl s
  | pr => exact Moves.refl s

theorem Moves.takePoll (awake : a) (r : Reader) (p : PollAnswer) : Moves a s (s.takePoll r p) := by
  unfold State.takePoll
  split
  · exact Moves.comp (Moves.pollPresence awake s r p) (Moves.pollListening awake r p)
  · exact Moves.comp (Moves.pollPresence awake s r p) (Moves.pollPresent awake r p)
  · split
    · exact Moves.enterFault r
    · exact Moves.refl s
  · split
    · exact Moves.enterFault r
    · exact Moves.refl s
  · exact Moves.refl s

/-! ### Meter Unit -/

theorem totalizerModulus_pos : 0 < totalizerModulus := by decide

/-- The totalizers of a pulse are taken modulo their modulus; the ranges are those of the channel before (R18). -/
theorem Channel.keeps.totalize {kq : Nat} {c c' : Channel} (keeps : c.keeps kq c') (gross net : Nat) :
    c.keeps kq (c'.totalize gross net) :=
  ⟨keeps.bound, keeps.inRange, fun _ => Nat.mod_lt _ totalizerModulus_pos, fun _ => Nat.mod_lt _ totalizerModulus_pos⟩

/-- A transaction pulse leaves the latched factor, with a remainder below it (R7). -/
theorem Channel.keeps_pulse (c : Channel) (kq alpha price : Nat) (d : Int) :
    c.keeps kq { c with txn := c.txn.pulse alpha price d } where
  bound := rfl
  inRange := fun low ⟨txn, rest⟩ => ⟨fun on => by
    obtain ⟨latched, -⟩ := txn on
    exact ⟨latched, by simpa only [TxnContext.pulse, pulseStep, latched] using Nat.mod_lt _ (by omega)⟩, rest⟩
  gross := id
  net := id

/-- An unattributed pulse under the factor in effect leaves a remainder below the calibrated factor (R6, R7). -/
theorem Channel.keeps_unattributed (c : Channel) {kq effect : Nat} (u : UnattributedContext) (d : Int)
    (latched : c.inRange kq → effect = kq) :
    c.keeps kq { c with unattributed := some (u.pulse effect d) } where
  bound := rfl
  inRange := fun low range => by
    have ⟨txn, _, rest⟩ := range
    refine ⟨txn, fun v hv => ?_, rest⟩
    cases hv
    simpa only [UnattributedContext.pulse, pulseStep, latched range] using Nat.mod_lt _ (by omega)
  gross := id
  net := id

/-- Where the channel is in range, the factor in effect is the calibrated one. -/
theorem State.kqInEffect_of_inRange {h : Hose} (range : (s.chan.get h).inRange (s.cal.kq.get h)) :
    s.kqInEffect h = s.cal.kq.get h := by
  unfold State.kqInEffect
  split
  · next on => exact (range.1 on).1
  · rfl

theorem Moves.handNet (awake : a) (c : Comp) (n before : Nat) : Moves a s (s.handNet c n before) :=
  Moves.comp (Moves.countDispensed c n) (Moves.debitStock awake c n before)

theorem Moves.senseFlow (awake : a) (h : Hose) : Moves a s (s.senseFlow h) := by
  have restarted : Moves a s (if (s.slotState h).delivers then
      s.modHoseCtl h fun c => { c with noFlow := s.timer 60000 } else s) :=
    Moves.ite (fun _ => Moves.modHoseCtl h _ (.inl awake)) fun _ => Moves.refl s
  have slots : (if (s.slotState h).delivers then
      s.modHoseCtl h fun c => { c with noFlow := s.timer 60000 } else s).slots = s.slots := by split <;> rfl
  unfold State.senseFlow
  dsimp only
  split
  · next ready =>
    refine restarted.trans (Moves.ite (fun _ => ?_) fun _ => Moves.modHoseCtl_same h _ rfl rfl rfl)
    refine Moves.comp (Moves.setRunning h rfl ?_) (Moves.modHoseCtl_same h _ rfl rfl rfl)
    rw [State.slotState, State.modHoseCtl_slots, slots, ← State.slotState, ready]; rfl
  · exact restarted.trans (Moves.modHoseCtl_same h _ rfl rfl rfl)
  · exact restarted

theorem Moves.checkOverrun (h : Hose) : Moves a s (s.checkOverrun h) :=
  Moves.ite (fun _ => Moves.comp (Moves.meterException h _) (Moves.modHoseCtl_same h _ rfl rfl rfl)) fun _ =>
    Moves.refl s

theorem Moves.transactionPulse (awake : a) (h : Hose) : Moves a s (s.transactionPulse h) := by
  unfold State.transactionPulse
  dsimp only
  refine Moves.ite (fun _ => ?_) fun _ => Moves.comp (Moves.checkOverrun h) (Moves.comp (Moves.compareVolume awake h) ?_)
  all_goals
    refine Moves.comp (Moves.senseFlow awake h) (Moves.comp (Moves.handNet awake _ _ _)
      (Moves.ite (fun _ => ?_) fun _ => Moves.comp (Moves.modSlot h _ (by rfl)) ?_))
    all_goals exact Moves.modChan h _ ((Channel.keeps_pulse _ _ _ _ _).totalize _ _)

theorem Moves.senseLeak (h : Hose) : Moves a s (s.senseLeak h) := by
  refine Moves.ite (fun _ => Moves.refl s) fun _ => Moves.ite (fun _ => Moves.ite (fun _ => ?_) fun _ => ?_) fun _ =>
    Moves.refl s
  · exact Moves.comp (Moves.meterException h _) (Moves.comp (Moves.modHoseCtl_same h _ rfl rfl rfl)
      (Moves.modHoseCtl_same h _ rfl rfl rfl))
  · exact Moves.modHoseCtl_same h _ rfl rfl rfl

theorem Moves.unattributedPulse (awake : a) (h : Hose) : Moves a s (s.unattributedPulse h) :=
  Moves.comp (Moves.handNet awake _ _ _) (Moves.comp (Moves.senseLeak h)
    (Moves.comp (Moves.modHoseCtl_same h _ rfl rfl rfl) (Moves.modChan h _
      ((Channel.keeps_unattributed _ _ _ State.kqInEffect_of_inRange).totalize _ _))))

theorem Moves.reportCeiling (awake : a) (h : Hose) : Moves a s (s.reportCeiling h) := by
  have marked : Moves a s (s.modChan h fun c => { c with ceilingReported := true }) :=
    Moves.modChan h _ (Channel.keeps_of_eq rfl rfl rfl rfl rfl (fun _ r => r.2.2.1) id id)
  exact Moves.ite (fun _ => Moves.refl s) fun _ => Moves.ite
    (fun _ => Moves.comp (Moves.enterClosing awake h _) marked) fun _ => marked

theorem Moves.countedPulse (awake : a) (h : Hose) : Moves a s (s.countedPulse h) :=
  Moves.ite (fun _ => Moves.ite (fun _ => Moves.comp (Moves.reportCeiling awake h) (Moves.unattributedPulse awake h))
    fun _ => Moves.transactionPulse awake h) fun _ => Moves.unattributedPulse awake h

theorem Moves.lineTakes (h : Hose) (line : MeterLine) (high : Bool) :
    Moves a s (s.modChan h fun c => c.lineTakes line high) := by
  cases line <;> exact Moves.modChan h _ (Channel.keeps_of_eq rfl rfl rfl rfl rfl (fun _ r => r.2.2.1) id id)

theorem Moves.phaseError (awake : a) (h : Hose) : Moves a s (s.phaseError h) := by
  have counted : Moves a s (s.modChan h fun c => { c with phaseErrors := min 9 ((s.chan.get h).phaseErrors + 1) }) :=
    Moves.modChan h _ (Channel.keeps_of_eq rfl rfl rfl rfl rfl (fun _ r => r.2.2.1) (fun _ => min_le_left ..) id)
  exact Moves.ite (fun _ => Moves.comp (Moves.meterReport awake h _) counted) fun _ => counted

theorem Moves.reversePulse (awake : a) (h : Hose) : Moves a s (s.reversePulse h) := by
  refine Moves.ite (fun below => ?_) fun _ => Moves.ite (fun _ => Moves.refl s) fun _ => ?_
  · refine Moves.modChan h _ (Channel.keeps_of_eq rfl rfl rfl rfl rfl (fun _ range => ?_) id id)
    rw [State.kqInEffect_of_inRange range] at below
    exact below
  · exact Moves.comp (Moves.meterReport awake h _)
      (Moves.modChan h _ (Channel.keeps_of_eq rfl rfl rfl rfl rfl (fun _ r => r.2.2.1) id id))

theorem Moves.forwardPulse (awake : a) (h : Hose) : Moves a s (s.forwardPulse h) :=
  Moves.ite (fun _ => Moves.countedPulse awake h) fun _ =>
    Moves.modChan h _ (Channel.keeps_of_eq rfl rfl rfl rfl rfl (fun _ r => (Nat.sub_le ..).trans r.2.2.1) id id)

theorem Moves.risingEdge (awake : a) (h : Hose) (line : MeterLine) : Moves a s (s.risingEdge h line) :=
  Moves.ite (fun _ => Moves.comp (Moves.phaseError awake h) (Moves.lineTakes h line true)) fun _ =>
    Moves.ite (fun _ => Moves.comp (Moves.forwardPulse awake h) (Moves.lineTakes h line true)) fun _ =>
      Moves.comp (Moves.reversePulse awake h) (Moves.lineTakes h line true)

theorem Moves.unmeteredEdge (h : Hose) (line : MeterLine) : Moves a s (s.unmeteredEdge h line) := by
  cases line <;> exact Moves.modChan h _ (Channel.keeps_of_eq rfl rfl rfl rfl rfl (fun _ r => r.2.2.1) id
    fun _ => min_le_left ..)

theorem Moves.takeEdge (normal : s.supply = .normal → a) (h : Hose) (line : MeterLine) (high : Bool) :
    Moves a s (s.takeEdge h line high) :=
  Moves.ite (fun _ => Moves.refl s) fun _ => Moves.ite (fun _ => Moves.ite
    (fun n => Moves.risingEdge (normal (by simpa [State.isNormal] using n)) h line) fun _ =>
      Moves.unmeteredEdge h line) fun _ => Moves.lineTakes h line false

end Sys2Proof.Machine
end

section
/-! Every command keeps the invariants: the owners of the port commands, the field events, the supply, and the six
obligations read off. -/

namespace Sys2Proof.Machine

open Sys2Proof

variable {a : Prop} {s t u : State}

/-! ### Port commands -/

theorem Moves.modPort (p : Port) (f : PortState → PortState) : Moves a s (s.modPort p f) := Moves.quiet ..

theorem Moves.turnAway (p : Port) (st : Status) : Moves a s (s.turnAway p st) :=
  Moves.ite (fun _ => Moves.modPort p _) fun _ => Moves.modPort p _

/-- A command that its port takes moves as its owner does; else it is discarded or answered. -/
theorem Moves.takeCommand {p : Port} {accepts : Port → Bool} {whileSaved : Bool} {owner : State → Answer}
    (owned : s.supply = .normal ∨ whileSaved = true → Moves a s (owner s).1) :
    Moves a s (s.takeCommand p accepts whileSaved owner) := by
  refine Moves.ite (fun _ => Moves.modPort p _) fun _ => Moves.comp (Moves.modPort p _) ?_
  unfold State.judge
  split
  · exact Moves.refl s
  · split
    · exact Moves.refl s
    · next takes =>
      refine owned ?_
      cases whileSaved <;> simp_all [State.isNormal]

/-- A command that is turned away while the supply is SAVED: its owner acts on an awake part. -/
theorem Moves.command {p : Port} {accepts : Port → Bool} {owner : State → Answer}
    (owned : s.awake → Moves s.awake s (owner s).1) : Moves s.awake s (s.takeCommand p accepts false owner) :=
  Moves.takeCommand fun takes => owned (.inl (takes.resolve_right (by decide)))

theorem Moves.forHose (b : Byte) (f : Hose → Answer) (each : ∀ h, Moves a s (f h).1) :
    Moves a s (forHose b s f).1 := by
  unfold Machine.forHose
  cases hoseOf b with
  | none => exact Moves.refl s
  | some h => exact each h

theorem Moves.forComp (b : Byte) (f : Comp → Answer) (each : ∀ c, Moves a s (f c).1) :
    Moves a s (forComp b s f).1 := by
  unfold Machine.forComp
  cases compOf b with
  | none => exact Moves.refl s
  | some c => exact each c

/-- Of an answer that is one of two. -/
theorem Moves.answerIte {c : Prop} [Decidable c] {x y : Answer} (f : c → Moves a s x.1) (g : ¬c → Moves a s y.1) :
    Moves a s (if c then x else y).1 := by
  split
  · next h => exact f h
  · next h => exact g h

theorem Moves.accept (m : Moves a s t) : Moves a s (accepted t).1 := m

theorem Moves.ownIdentify (awake : a) (b m : Byte) (n : BitVec 24) : Moves a s (ownIdentify b m n s).1 := by
  refine Moves.forHose b _ fun h => Moves.answerIte (fun _ => Moves.refl s) fun ident => ?_
  split
  · exact Moves.refl s
  · refine Moves.identify awake h _ ?_
    rw [not_or, not_not] at ident
    rw [ident.1]; rfl

theorem Moves.ownSetPreset (b k : Byte) (n : BitVec 16) : Moves a s (ownSetPreset b k n s).1 :=
  Moves.forHose b _ fun h => Moves.answerIte (fun _ => Moves.refl s) fun _ =>
    Moves.answerIte (fun _ => Moves.accept (Moves.modSlot h _ rfl)) fun _ => Moves.refl s

theorem Moves.ownEnterHours (awake : a) (b : Byte) (n : BitVec 24) : Moves a s (ownEnterHours b n s).1 :=
  Moves.forHose b _ fun h => Moves.answerIte (fun _ => Moves.refl s) fun _ =>
    Moves.answerIte (fun _ => Moves.setHours awake h _) fun _ => Moves.refl s

theorem Moves.ownHold (awake : a) (b : Byte) : Moves a s (ownHold b s).1 :=
  Moves.forHose b _ fun h => Moves.answerIte (fun _ => Moves.addHold awake h _) fun _ => Moves.refl s

theorem Moves.ownResume (awake : a) (b : Byte) : Moves a s (ownResume b s).1 :=
  Moves.forHose b _ fun h => Moves.answerIte (fun _ => Moves.refl s) fun _ =>
    Moves.answerIte (fun _ => Moves.removeHold awake h _) fun _ => Moves.refl s

theorem Moves.ownStop (awake : a) (b : Byte) : Moves a s (ownStop b s).1 :=
  Moves.forHose b _ fun h => Moves.answerIte (fun _ => Moves.enterClosing awake h _) fun _ => Moves.refl s

/-- The unattributed context of a channel is emptied (R20). -/
theorem Moves.clearUnattributed (h : Hose) : Moves a s (s.modChan h fun c => c.clearUnattributed) := by
  refine Moves.modChan h _ ⟨?_, fun _ range => ?_, ?_, ?_⟩ <;> unfold Channel.clearUnattributed
  · split <;> rfl
  · obtain ⟨txn, -, debt, errors, unmetered⟩ := range
    split
    · exact ⟨txn, fun _ e => absurd e (by simp), debt, errors, unmetered⟩
    · exact ⟨txn, fun _ e => absurd e (by simp), Nat.zero_le _, Nat.zero_le _, unmetered⟩
  · split <;> exact id
  · split <;> exact id

theorem Moves.clearPending (h : Hose) : Moves a s (s.clearPending h) := Moves.modHoseCtl_same h _ rfl rfl rfl

theorem Moves.ownAckException (awake : a) (b : Byte) : Moves a s (ownAckException b s).1 :=
  Moves.forHose b _ fun h => Moves.answerIte (fun _ => Moves.accept (Moves.clearPending h)) fun _ =>
    Moves.answerIte (fun _ => Moves.refl s) fun free => Moves.accept <| Moves.comp (Moves.clearPending h)
      (Moves.comp (Moves.clearUnattributed h) (Moves.comp (Moves.modHoseCtl_same h _ rfl rfl rfl)
        (Moves.appendDirect awake _ free)))

theorem Channel.fresh_inRange (levels : LineLevels) (totals : SavedTotals) (now kq : Nat) :
    (Channel.fresh levels totals now).inRange kq :=
  ⟨fun on => absurd on (by simp [Channel.fresh]), fun _ e => absurd e (by simp [Channel.fresh]),
    Nat.zero_le _, Nat.zero_le _, Nat.zero_le _⟩

/-- A start of the RAM empties slots, channels, cache and staged table and evaluates the cuts: under the ranges that
the figures and the totalizers bring, it breaks nothing (R192, R193). -/
theorem Kept.started (cause : ResetCause) (figures : PerComp SavedStock) (totals : PerHose SavedTotals)
    (inRange : s.StockInv → (∀ c, figuresInRange (figures.get c).book (figures.get c).credited
        (figures.get c).adjusted (figures.get c).dispensed)
      ∧ ∀ h, (totals.get h).gross < totalizerModulus ∧ (totals.get h).net < totalizerModulus) :
    Kept s (s.started cause figures totals) where
  pending := rfl
  cut _ c := by
    refine ⟨?_, fun _ h _ => ?_⟩
    · cases c <;> exact decide_eq_true_iff
    · cases h <;> rfl
  bound _ h := by cases h <;> rfl
  meter inv := by
    refine ⟨fun h => by cases h <;> rfl, fun h => ⟨(inv.2 h).1, (inv.2 h).2.1, ?_⟩⟩
    cases h <;> exact Channel.fresh_inRange ..
  cache _ := fun i w e at_w => by
    have : (s.started cause figures totals).roster.entryAt ⟨i, w⟩ = none := by
      simp [Roster.entryAt, State.started, Roster.restarted, CacheSet.empty, Vector.get_eq_getElem]
    rw [this] at at_w
    cases at_w
  stock inv := by
    obtain ⟨stock, tots⟩ := inRange inv
    obtain ⟨-, saved, -, savedTotals⟩ := inv
    refine ⟨fun c => ?_, saved, fun h => ?_, savedTotals⟩
    · cases c <;> first | exact stock .a | exact stock .b
    · cases h <;> first | exact tots .h1 | exact tots .h2 | exact tots .h3

theorem State.restartable_iff : s.restartable = true ↔
    (∀ h, s.slotState h = .idle) ∧ ∀ c, (s.receipts.get c).state = .closed := by
  simp only [State.restartable, State.allIdle, allHoses, allComps, List.all_cons, List.all_nil, Bool.and_true,
    Bool.and_eq_true, beq_iff_eq]
  constructor
  · rintro ⟨⟨h1, h2, h3⟩, ca, cb⟩
    exact ⟨fun h => by cases h <;> assumption, fun c => by cases c <;> assumption⟩
  · rintro ⟨h, c⟩
    exact ⟨⟨h _, h _, h _⟩, c _, c _⟩

theorem Moves.panelRestart (normal : s.supply = .normal) (awake : a) : Moves a s s.panelRestart := by
  refine Moves.comp Moves.startJournal ⟨Kept.started _ _ _ fun ⟨live, _, totals, _⟩ => ⟨?_, ?_⟩, id, normal.symm, rfl,
    fun na => absurd awake na⟩
  · intro c; cases c <;> first | exact live .a | exact live .b
  · intro h; cases h <;> first | exact totals .h1 | exact totals .h2 | exact totals .h3

theorem Moves.ownRestart (normal : s.supply = .normal) (awake : a) : Moves a s (ownRestart s).1 :=
  Moves.answerIte (fun _ => Moves.panelRestart normal awake) fun _ => Moves.refl s

/-! ### Office commands -/

theorem SlotState.not_authorised_of_waitsFor {m : Nat} {wanted : Bool} {h : Hose} (w : s.waitsFor m wanted h = true) :
    (s.slotState h).authorised = false := by
  unfold State.waitsFor at w
  split at w
  · next e => rw [e]; rfl
  · next e => rw [e]; rfl
  · cases w

theorem Moves.giveLoaded (awake : a) (m : Nat) (wanted : Bool) (h : Hose) : Moves a s (s.giveLoaded m wanted h) := by
  refine Moves.ite (fun waits => ?_) fun _ => Moves.refl s
  split
  · exact Moves.giveEntry awake h _ (SlotState.not_authorised_of_waitsFor waits)
  · exact Moves.refl s

theorem Moves.answerWaiting (awake : a) (m : Nat) : Moves a s (s.answerWaiting m) :=
  Moves.comp (Moves.giveLoaded awake m _ _) (Moves.comp (Moves.giveLoaded awake m _ _)
    (Moves.comp (Moves.giveLoaded awake m _ _) (Moves.modRoster_cache (·.removeRequest m) rfl)))

theorem Moves.loadEntry (awake : a) (b : EntryBody) : Moves a s (s.loadEntry b) :=
  Moves.comp (Moves.answerWaiting awake _) (Moves.modRoster (·.load b) fun placed => placed.load b)

theorem Moves.loadEntries (awake : a) (bodies : List EntryBody) : Moves a s (bodies.foldl State.loadEntry s) := by
  induction bodies generalizing s with
  | nil => exact Moves.refl s
  | cons b bs ih => exact (Moves.loadEntry awake b).trans ih

theorem Moves.ownLoadRoster (awake : a) (count : Byte) (entries : List WireEntry) :
    Moves a s (ownLoadRoster count entries s).1 := by
  refine Moves.answerIte (fun _ => Moves.refl s) fun _ => ?_
  split
  · exact Moves.refl s
  · exact Moves.answerIte (fun _ => Moves.refl s) fun _ => Moves.loadEntries awake _

theorem Moves.rejectProvisional (w : WayRef) (h : Hose) : Moves a s (s.rejectProvisional w h) :=
  Moves.ite (fun _ => Moves.modSlot h _ rfl) fun _ => Moves.refl s

theorem Moves.markRejected (m : Nat) : Moves a s (s.markRejected m) := by
  unfold State.markRejected
  split
  · exact Moves.refl s
  · split
    · exact Moves.refl s
    · exact Moves.ite (fun _ => Moves.comp (Moves.rejectProvisional _ _) (Moves.comp (Moves.rejectProvisional _ _)
        (Moves.rejectProvisional _ _))) fun _ => Moves.refl s

theorem Moves.refuseUnlisted (m : Nat) (wanted : Bool) (h : Hose) : Moves a s (s.refuseUnlisted m wanted h) :=
  Moves.ite (fun waits => Moves.refuse h _ (SlotState.not_authorised_of_waitsFor waits)) fun _ => Moves.refl s

theorem Moves.notOnRoster (m : Nat) : Moves a s (s.notOnRoster m) :=
  Moves.comp (Moves.refuseUnlisted _ _ _) (Moves.comp (Moves.refuseUnlisted _ _ _) (Moves.comp (Moves.refuseUnlisted _ _ _)
    (Moves.comp (Moves.modRoster (fun r => (r.dropMachine m).removeRequest m)
      fun placed => (placed.dropMachine m).of_cache rfl) (Moves.markRejected m))))

theorem Moves.ownNotOnRoster (m : BitVec 24) : Moves a s (ownNotOnRoster m s).1 :=
  Moves.answerIte (fun _ => Moves.notOnRoster _) fun _ => Moves.refl s

theorem Moves.ownDropRoster (m : BitVec 24) : Moves a s (ownDropRoster m s).1 :=
  Moves.answerIte (fun _ => Moves.accept (Moves.modRoster (·.dropMachine m.toNat) fun placed => placed.dropMachine _))
    fun _ => Moves.refl s

theorem Moves.ownSetQuickCode (k : Byte) (m : BitVec 24) : Moves a s (ownSetQuickCode k m s).1 := by
  unfold Machine.ownSetQuickCode
  split
  · exact Moves.refl s
  · exact Moves.answerIte (fun _ => Moves.accept (Moves.modRoster_cache _ rfl)) fun _ => Moves.refl s

theorem Moves.ownSetPrice (k : Byte) (v : BitVec 24) : Moves a s (ownSetPrice k v s).1 := by
  unfold Machine.ownSetPrice
  split
  · exact Moves.refl s
  · exact Moves.answerIte (fun _ => Moves.refl s) fun _ => Moves.accept (Moves.quiet ..)

theorem Moves.ownSetAccount (i : Byte) (k v : BitVec 32) : Moves a s (ownSetAccount i k v s).1 := by
  unfold Machine.ownSetAccount
  split
  · exact Moves.refl s
  · exact Moves.answerIte (fun _ => Moves.refl s) fun _ => Moves.answerIte (fun _ => Moves.refl s) fun _ =>
      Moves.accept (Moves.modRoster_cache _ rfl)

theorem Moves.ownReadAccounts (i : Byte) : Moves a s (ownReadAccounts i s).1 := by
  unfold Machine.ownReadAccounts
  split <;> exact Moves.refl s

theorem Moves.ownResetPeriod (i : Byte) : Moves a s (ownResetPeriod i s).1 := by
  unfold Machine.ownResetPeriod
  split
  · exact Moves.refl s
  · exact Moves.accept (Moves.modRoster_cache _ rfl)

theorem Moves.ownReadNext : Moves a s (ownReadNext s).1 := by
  refine Moves.accept (Moves.modJournal Journal.advance (fun ⟨run, seqs, slots, numbers, low, high⟩ => ?_)
    (.inr ⟨rfl, rfl⟩))
  refine ⟨run, seqs, slots, numbers, low.trans (Nat.le_add_right ..), ?_⟩
  simp only [Journal.advance, Journal.nextRecords, List.length_take, List.length_drop]
  omega

theorem Moves.ownReadFrom (n : BitVec 32) : Moves a s (ownReadFrom n s).1 :=
  Moves.accept (Moves.modJournal _ (fun sound => by
    obtain ⟨run, seqs, slots, numbers, -, -⟩ := id sound
    exact ⟨run, seqs, slots, numbers, le_max_left _ _, max_le sound.oldest_le_next (min_le_right _ _)⟩)
    (.inr ⟨rfl, rfl⟩))

theorem Moves.ownCollected (awake : a) (n : BitVec 32) : Moves a s (ownCollected n s).1 := by
  refine Moves.answerIte (fun _ => Moves.refl s) fun written => Moves.answerIte (fun _ => Moves.refl s) fun low => ?_
  exact Moves.comp (Moves.noteFree _) (Moves.modJournal (·.released n.toNat)
    (fun sound => sound.released (not_lt.1 low) (not_le.1 written)) (.inl awake))

/-- The high mark follows the journal alone, so it can be taken before an update of another block. -/
theorem State.noteFree_comm {f : State → State} (before : Nat) (free : (f s).journal.free = s.journal.free)
    (sets : ((f s).modJournal fun j => { j with highLatch := true }).raise .journalHigh
      = f ((s.modJournal fun j => { j with highLatch := true }).raise .journalHigh))
    (clears : ((f s).modJournal fun j => { j with highLatch := false })
      = f (s.modJournal fun j => { j with highLatch := false })) :
    (f s).noteFree before = f (s.noteFree before) := by
  unfold State.noteFree
  rw [free, sets, clears]
  split
  · rfl
  · split <;> rfl

/-- A direct append and a change of a stock record or of the Calibration Store can be taken in either order. -/
theorem State.modStock_appendDirect (c : Comp) (f : Stock → Stock) (body : RecordBody) :
    (s.modStock c f).appendDirect body = (s.appendDirect body).modStock c f :=
  State.noteFree_comm (f := fun s => s.modStock c f) (s := s.pushRecord body false) _ rfl rfl rfl

theorem State.modCal_appendDirect (f : Calibration → Calibration) (body : RecordBody) :
    (s.modCal f).appendDirect body = (s.appendDirect body).modCal f :=
  State.noteFree_comm (f := fun s => s.modCal f) (s := s.pushRecord body false) _ rfl rfl rfl

/-- A direct append writes the journal and the ports. -/
theorem State.appendDirect_frame (body : RecordBody) :
    s.appendDirect body =
      { s with journal := (s.appendDirect body).journal, ports := (s.appendDirect body).ports } := by
  unfold State.appendDirect
  obtain ⟨_, _, e⟩ := (s.pushRecord body false).noteFree_frame s.journal.free
  rw [e]; rfl

theorem Moves.ownAdjustStock (awake : a) (c : Byte) (d : BitVec 32) (r : Byte) :
    Moves a s (ownAdjustStock c d r s).1 := by
  unfold Machine.ownAdjustStock
  split
  · exact Moves.refl s
  · next c _ =>
    refine Moves.answerIte (fun _ => Moves.refl s) fun inRange => Moves.answerIte (fun _ => Moves.refl s) fun free =>
      Moves.accept ?_
    have finish (t : State) : Moves a t (if d.toInt < 0 then t.restockTest c else t.rearmTest c) :=
      Moves.ite (fun _ => Moves.restockTest c) fun _ => Moves.rearmTest c
    refine Moves.comp (finish _) ?_
    rw [State.modStock_appendDirect]
    refine Moves.trans (Moves.appendDirect awake _ free)
      (Moves.evaluateCut awake c _ _ rfl (fun _ _ => rfl) rfl ?_)
    have stock (body : RecordBody) : (s.appendDirect body).stock = s.stock := by rw [State.appendDirect_frame]
    rw [stock]
    rintro ⟨-, -, credited, -, dispensed⟩
    simp only [State.deltaRefused, Bool.or_eq_true, decide_eq_true_eq, beq_iff_eq, not_or, not_lt] at inRange
    obtain ⟨-, bound⟩ := inRange
    refine ⟨?_, ?_, credited, toNat_emod_lt _, dispensed⟩ <;> dsimp only <;> omega

theorem Moves.ownSetClock (n : BitVec 32) : Moves a s (ownSetClock n s).1 :=
  Moves.comp Moves.checkRollover (Moves.quiet ..)

theorem Moves.ownSetSite (b : Byte) (n : BitVec 24) (c d : Byte) : Moves a s (ownSetSite b n c d s).1 := by
  unfold Machine.ownSetSite
  split
  · exact Moves.refl s
  · exact Moves.comp Moves.checkRollover (Moves.modRoster_cache _ rfl)

/-! ### Depot commands -/

theorem Moves.ownOpenReceipt (awake : a) (c : Byte) (k v : BitVec 32) : Moves a s (ownOpenReceipt c k v s).1 :=
  Moves.forComp c _ fun c => Moves.answerIte (fun _ => Moves.refl s) fun _ => Moves.answerIte (fun _ => Moves.refl s)
    fun _ => Moves.answerIte (fun _ => Moves.refl s) fun free => Moves.accept <|
      Moves.comp (Moves.raise _) (Moves.comp (Moves.modReceipt c _ (.inl awake)) (Moves.reserveSlot _ free))

theorem Moves.ownCloseReceipt (awake : a) (c : Byte) : Moves a s (ownCloseReceipt c s).1 := by
  refine Moves.forComp c _ fun c => ?_
  split
  · exact Moves.endFill awake c
  all_goals exact Moves.refl s

theorem Moves.ownAbortReceipt (awake : a) (c : Byte) : Moves a s (ownAbortReceipt c s).1 := by
  refine Moves.forComp c _ fun c => ?_
  split
  · exact Moves.cancelReceipt awake c
  · exact Moves.abortFill awake c
  all_goals exact Moves.refl s

theorem Moves.reorderChanged (c : Comp) (old : Nat) : Moves a s (s.reorderChanged c old) :=
  Moves.ite (fun _ => Moves.refl s) fun _ => Moves.comp (Moves.restockTest c) (Moves.modStock c _ rfl rfl rfl rfl rfl)

theorem Moves.ownSetDepot (ra rb : BitVec 32) (ba bb : Byte) (sb : BitVec 16) (ca ro : Byte) :
    Moves a s (ownSetDepot ra rb ba bb sb ca ro s).1 := by
  unfold Machine.ownSetDepot
  split
  · exact Moves.refl s
  · exact Moves.comp (Moves.reorderChanged _ _) (Moves.comp (Moves.reorderChanged _ _) (Moves.quiet ..))

theorem Moves.unlocked (f : Answer) (owned : Moves a s f.1) : Moves a s (s.unlocked f).1 :=
  Moves.answerIte (fun _ => owned) fun _ => Moves.refl s

/-- A calibration write that passes its checks has a free journal slot, and its target is not in use. -/
theorem Moves.calJudge (inRange busy tableOk : Bool) {act : State}
    (acts : inRange = true → busy = false → s.journal.free ≠ 0 → Moves a s act) :
    Moves a s (s.calJudge inRange busy tableOk act).1 :=
  Moves.answerIte (fun _ => Moves.refl s) fun range => Moves.answerIte (fun _ => Moves.refl s) fun idle =>
    Moves.answerIte (fun _ => Moves.refl s) fun _ => Moves.answerIte (fun _ => Moves.refl s) fun free =>
      acts (by simpa using range) (by simpa using idle) free

/-- An accepted write stores its value after the record. -/
theorem State.calWrite_eq (target : CalTarget) (old new : CalSummary) (store : Calibration → Calibration) :
    s.calWrite target old new store =
      ((s.appendDirect (.calibration ⟨target, old, new, s.cal.audit + 1, s.clock.counter⟩)).raise
        .calibration).modCal fun k => { store k with audit := k.audit + 1 } := by
  unfold State.calWrite
  rw [State.modCal_appendDirect]
  rfl

theorem Moves.calRecord (awake : a) (body : RecordBody) (free : s.journal.free ≠ 0) :
    Moves a s ((s.appendDirect body).raise .calibration) :=
  Moves.comp (Moves.raise _) (Moves.appendDirect awake body free)

theorem State.appendDirect_cal (body : RecordBody) : ((s.appendDirect body).raise .calibration).cal = s.cal := by
  rw [State.raise_cal, State.appendDirect_frame]

/-- A write of a parameter other than a meter factor or a dead stock. -/
theorem Moves.calWrite (awake : a) (target : CalTarget) (old new : CalSummary) (store : Calibration → Calibration)
    (kq : (store s.cal).kq = s.cal.kq) (dead : (store s.cal).dead = s.cal.dead) (free : s.journal.free ≠ 0) :
    Moves a s (s.calWrite target old new store) := by
  rw [State.calWrite_eq]
  exact (Moves.calRecord awake _ free).trans
    (Moves.modCal _ (by rw [State.appendDirect_cal]; exact kq) (by rw [State.appendDirect_cal]; exact dead))

/-- A new factor within its range for a hose whose slot is IDLE, with what it does to the channel (R20, R178). -/
theorem Moves.refactor (h : Hose) (k : Calibration) (idle : s.slotState h = .idle)
    (same : ∀ j, j ≠ h → k.kq.get j = s.cal.kq.get j) (dead : k.dead = s.cal.dead)
    (low : 200 ≤ k.kq.get h) (high : k.kq.get h ≤ 20000) :
    Moves a s (({ s with cal := k }).modChan h Channel.refactor) where
  pending := rfl
  cut inv c := by
    have := inv c
    rw [← dead] at this
    exact this
  bound inv := PerHose.forall_set (P := fun k (y : Channel) => y.bound = (s.slotState k).authorised) inv id
  meter := fun ⟨bound, range⟩ => ⟨PerHose.forall_set (P := fun k (y : Channel) => y.bound = (s.slotState k).authorised)
      bound id, fun j => by
    show 200 ≤ k.kq.get j ∧ k.kq.get j ≤ 20000 ∧ ((s.chan.set h (s.chan.get h).refactor).get j).inRange (k.kq.get j)
    by_cases hj : j = h
    · subst hj
      rw [PerHose.get_set_same]
      refine ⟨low, high, fun on => ?_, fun u hu => ?_, Nat.zero_le _, (range j).2.2.2.2.2⟩
      · have off : (s.chan.get j).bound = false := by rw [bound j, idle]; rfl
        exact absurd on (by simp [Channel.refactor, off])
      · obtain ⟨v, -, rfl⟩ := Option.map_eq_some_iff.1 hu
        show 0 < k.kq.get j
        omega
    · rw [PerHose.get_set_ne _ _ hj, same j hj]
      exact range j⟩
  cache := id
  stock := fun ⟨live, saved, totals, savedTotals⟩ => ⟨live, saved, PerHose.forall_set
    (P := fun _ (y : Channel) => y.grossTotalizer < totalizerModulus ∧ y.netTotalizer < totalizerModulus)
    totals id, savedTotals⟩
  sound := id
  supply := rfl
  save := rfl
  asleep _ := ⟨rfl, rfl, id⟩

theorem Moves.ownCalSetKq (awake : a) (b : Byte) (n : BitVec 16) : Moves a s (ownCalSetKq b n s).1 := by
  refine Moves.unlocked _ ?_
  split
  · exact Moves.refl s
  · next h _ =>
    refine Moves.calJudge _ _ _ fun range idle free => ?_
    rw [State.calWrite_eq]
    refine (Moves.calRecord awake _ free).trans (Moves.refactor h _ ?_ (fun j hj => ?_) ?_ ?_ ?_)
    · rw [State.slotState, State.raise_slots, State.appendDirect_frame]
      simpa [State.slotState] using idle
    · simp [hj]
    · simp
    all_goals
      simp only [Bool.and_eq_true, decide_eq_true_eq] at range
      simp [range]

theorem Moves.ownCalSetAlpha (awake : a) (b : Byte) (n : BitVec 16) : Moves a s (ownCalSetAlpha b n s).1 := by
  refine Moves.unlocked _ ?_
  split
  · exact Moves.refl s
  · exact Moves.calJudge _ _ _ fun _ _ free => Moves.calWrite awake _ _ _ _ rfl rfl free

/-- A new dead stock for a compartment, with the cut flag evaluated after it (R122). -/
theorem Moves.deadWritten (awake : a) (c : Comp) (k : Calibration) (old : Nat) (kq : k.kq = s.cal.kq)
    (dead : ∀ d, d ≠ c → k.dead.get d = s.cal.dead.get d) :
    Moves a s (({ s with cal := k }).deadStockWritten c old) := by
  have evaluated := Moves.evaluateCut awake c id k kq dead rfl id
  simp only [State.modStock, id_eq, PerComp.set_get] at evaluated
  exact Moves.ite (fun _ => evaluated.trans (Moves.restockTest c)) fun _ => evaluated

theorem Moves.ownCalSetDeadStock (awake : a) (b : Byte) (n : BitVec 32) : Moves a s (ownCalSetDeadStock b n s).1 := by
  refine Moves.unlocked _ ?_
  split
  · exact Moves.refl s
  · refine Moves.calJudge _ _ _ fun _ _ free => ?_
    rw [State.calWrite_eq]
    refine (Moves.calRecord awake _ free).trans (Moves.deadWritten awake _ _ _ rfl fun d hd => ?_)
    simp [hd]

theorem Moves.ownCalSetHighHigh (awake : a) (b : Byte) (n : BitVec 16) : Moves a s (ownCalSetHighHigh b n s).1 := by
  refine Moves.unlocked _ ?_
  split
  · exact Moves.refl s
  · exact Moves.calJudge _ _ _ fun _ _ free => Moves.calWrite awake _ _ _ _ rfl rfl free

theorem Moves.ownCalSetTilt (awake : a) (n : BitVec 16) : Moves a s (ownCalSetTilt n s).1 :=
  Moves.unlocked _ (Moves.calJudge _ _ _ fun _ _ free =>
    (Moves.calWrite awake _ _ _ _ rfl rfl free).trans (Moves.reviewGauges fun _ => awake))

theorem Moves.ownCalSetTolerance (awake : a) (n m : BitVec 32) : Moves a s (ownCalSetTolerance n m s).1 :=
  Moves.unlocked _ (Moves.calJudge _ _ _ fun _ _ free => Moves.calWrite awake _ _ _ _ rfl rfl free)

theorem Moves.ownCalStrapCommit (awake : a) (b : Byte) : Moves a s (ownCalStrapCommit b s).1 := by
  refine Moves.unlocked _ ?_
  split
  · exact Moves.refl s
  · exact Moves.calJudge _ _ _ fun _ _ free => Moves.calWrite awake _ _ _ _ rfl rfl free

theorem Moves.ownCalStrapLoad (b c d : Byte) (points : List WirePoint) : Moves a s (ownCalStrapLoad b c d points s).1 := by
  refine Moves.unlocked _ ?_
  split
  · refine Moves.answerIte (fun _ => Moves.refl s) fun _ => ?_
    unfold State.stage
    split
    · exact Moves.refl s
    · exact Moves.answerIte (fun _ => Moves.refl s) fun _ => Moves.accept (Moves.modCal _ rfl rfl)
  · exact Moves.refl s

theorem Moves.ownReadCal (b c d : Byte) : Moves a s (ownReadCal b c d s).1 := by
  have table (n : Nat) (points : Comp → List StrapPoint) : Moves a s (s.readTable c d n points).1 := by
    unfold State.readTable
    split
    · exact Moves.refl s
    · exact Moves.answerIte (fun _ => Moves.refl s) fun _ => Moves.refl s
  unfold Machine.ownReadCal
  split
  · exact Moves.refl s
  · exact table ..
  · exact table ..
  · exact Moves.refl s

theorem Moves.ownSetEventMask (p : Port) (m : BitVec 16) : Moves a s (ownSetEventMask p m s).1 :=
  Moves.answerIte (fun _ => Moves.refl s) fun _ => Moves.accept (Moves.modPort p _)

end Sys2Proof.Machine
end

section
/-! Every command keeps the invariants: the field events, the supply, and the obligations read off. -/

namespace Sys2Proof.Machine

open Sys2Proof

variable {a : Prop} {s t u : State}

theorem Moves.answered (payload : List Byte) (m : Moves a s t) : Moves a s (answerWith t payload).1 := m

/-- Whatever a port command does to an awake part, and nothing but its port while SAVED. -/
theorem Moves.runCommand (c : Instr) : Moves s.awake s (runCommand c s) := by
  cases c with
  | identify p h m n => exact Moves.command fun awake => Moves.ownIdentify awake ..
  | setPreset p h k l => exact Moves.command fun _ => Moves.ownSetPreset ..
  | enterHours p h v => exact Moves.command fun awake => Moves.ownEnterHours awake ..
  | hold p h => exact Moves.command fun awake => Moves.ownHold awake ..
  | resume p h => exact Moves.command fun awake => Moves.ownResume awake ..
  | stop p h => exact Moves.command fun awake => Moves.ownStop awake ..
  | ackException p h => exact Moves.command fun awake => Moves.ownAckException awake ..
  | readHose p h => exact Moves.command fun _ => Moves.forHose _ _ fun _ => Moves.refl s
  | logoff p => exact Moves.command fun _ => Moves.logOff
  | restart p =>
    exact Moves.takeCommand fun takes =>
      have normal := takes.resolve_right (by decide)
      Moves.ownRestart normal (.inl normal)
  | loadRoster p k es =>
    exact Moves.ite (fun _ => Moves.command fun awake => Moves.ownLoadRoster awake ..) fun _ => Moves.turnAway ..
  | notOnRoster p m => exact Moves.command fun _ => Moves.ownNotOnRoster ..
  | dropRoster p m => exact Moves.command fun _ => Moves.ownDropRoster ..
  | setQuickCode p k m => exact Moves.command fun _ => Moves.ownSetQuickCode ..
  | setPrice p k v => exact Moves.command fun _ => Moves.ownSetPrice ..
  | setAccount p i k v => exact Moves.command fun _ => Moves.ownSetAccount ..
  | readAccounts p i => exact Moves.command fun _ => Moves.ownReadAccounts ..
  | resetPeriod p i => exact Moves.command fun _ => Moves.ownResetPeriod ..
  | readNext p => exact Moves.command fun _ => Moves.ownReadNext
  | readFrom p n => exact Moves.command fun _ => Moves.ownReadFrom ..
  | collected p n => exact Moves.command fun awake => Moves.ownCollected awake ..
  | adjustStock p k d r => exact Moves.command fun awake => Moves.ownAdjustStock awake ..
  | setClock p t => exact Moves.command fun _ => Moves.ownSetClock ..
  | setSite p hr c k q => exact Moves.command fun _ => Moves.ownSetSite ..
  | openReceipt p k d v => exact Moves.command fun awake => Moves.ownOpenReceipt awake ..
  | closeReceipt p k => exact Moves.command fun awake => Moves.ownCloseReceipt awake ..
  | abortReceipt p k => exact Moves.command fun awake => Moves.ownAbortReceipt awake ..
  | readReceipt p k => exact Moves.command fun _ => Moves.forComp _ _ fun _ => Moves.refl s
  | readGauge p k => exact Moves.command fun _ => Moves.forComp _ _ fun _ => Moves.refl s
  | setDepot p ra rb ba bb sb ca ro => exact Moves.command fun _ => Moves.ownSetDepot ..
  | calSetKq p h v => exact Moves.command fun awake => Moves.ownCalSetKq awake ..
  | calSetAlpha p k v => exact Moves.command fun awake => Moves.ownCalSetAlpha awake ..
  | calSetDeadStock p k v => exact Moves.command fun awake => Moves.ownCalSetDeadStock awake ..
  | calSetHighHigh p k v => exact Moves.command fun awake => Moves.ownCalSetHighHigh awake ..
  | calSetTilt p v => exact Moves.command fun awake => Moves.ownCalSetTilt awake ..
  | calSetTolerance p a q => exact Moves.command fun awake => Moves.ownCalSetTolerance awake ..
  | calStrapCommit p k => exact Moves.command fun awake => Moves.ownCalStrapCommit awake ..
  | calStrapLoad p k st n qs =>
    exact Moves.ite (fun _ => Moves.command fun _ => Moves.ownCalStrapLoad ..) fun _ => Moves.turnAway ..
  | readCal p k c i => exact Moves.command fun _ => Moves.ownReadCal ..
  | readStatus p => exact Moves.takeCommand fun _ => Moves.refl s
  | readStock p => exact Moves.command fun _ => Moves.refl s
  | readEvents p => exact Moves.command fun _ => Moves.answered _ (Moves.modPort p _)
  | setEventMask p m => exact Moves.command fun _ => Moves.ownSetEventMask ..
  | _ => exact Moves.refl s

theorem Moves.takeFrame (p : Port) (f : List Byte) : Moves s.awake s (s.takeFrame p f) := by
  unfold State.takeFrame
  split
  · exact Moves.turnAway ..
  · exact Moves.turnAway ..
  · exact Moves.runCommand _

theorem Moves.readBuffer (p : Port) (n : Nat) : Moves a s (s.readBuffer p n) := by
  unfold State.readBuffer
  split <;> exact Moves.modPort p _

theorem Moves.takeTransfer (p : Port) (bytes : List Byte) : Moves s.awake s (s.takeTransfer p bytes) := by
  cases bytes with
  | nil => exact Moves.refl s
  | cons b rest =>
    exact Moves.ite (fun _ => Moves.takeFrame p rest) fun _ => Moves.ite (fun _ => Moves.readBuffer p _) fun _ =>
      Moves.modPort p _

/-! ### Field events -/

/-- A timer that SAVED stops runs only in a part that is awake. -/
theorem State.awake_of_hoseTimer {h : Hose} (runs : ¬((s.hoseCtl.get h).settle = none
    ∧ (s.hoseCtl.get h).noFlow = none ∧ (s.hoseCtl.get h).pause = none ∧ (s.tracking.get h).restoreWindow = none)) :
    s.awake := .inr fun frozen => runs (frozen.1 h)

theorem State.awake_of_receiptTimer {c : Comp} (runs : ¬((s.receipts.get c).qualification = none
    ∧ (s.receipts.get c).limit = none)) : s.awake := .inr fun frozen => runs (frozen.2.1 c)

theorem State.awake_of_isNormal (n : s.isNormal = true) : s.awake := .inl (by simpa [State.isNormal] using n)

/-- While the part is not awake no supervisor window opens. -/
theorem Moves.window (m : Moves s.awake s t) (isOpen : t.supervisor.isSome = true) : s.awake := by
  by_contra asleep
  obtain ⟨-, frozen⟩ := not_or.1 asleep
  obtain ⟨-, -, window⟩ := (m.asleep asleep).2.2 (not_not.1 frozen)
  rw [window] at isOpen
  cases isOpen

theorem Moves.expireWaiter (wanted : Bool) (h : Hose) (window : s.supervisor.isSome = true → a) :
    Moves a s (s.expireWaiter wanted h) := by
  refine Moves.ite (fun waits => Moves.enterOverrideWait h ?_ window) fun _ => Moves.refl s
  simp only [Bool.and_eq_true, beq_iff_eq] at waits
  rw [waits.2]; rfl

theorem Moves.expireRequest (m : Nat) : Moves s.awake s (s.expireRequest m) := by
  have removed : Moves s.awake s (s.modRoster (·.removeRequest m)) := Moves.modRoster_cache _ rfl
  have first := removed.trans (Moves.expireWaiter (s.roster.waitsOn m .h1) .h1 removed.window)
  have second := first.trans (Moves.expireWaiter (s.roster.waitsOn m .h2) .h2 first.window)
  exact second.trans (Moves.expireWaiter (s.roster.waitsOn m .h3) .h3 second.window)

theorem Moves.switches (w : Switches) : Moves a s { s with switches := w } := Moves.quiet ..

theorem Moves.endSlot (awake : a) (h : Hose) (cause : EndCause) : Moves a s (s.endSlot h cause) :=
  Moves.comp (Moves.abandon h) (Moves.enterClosing awake h cause)

theorem Moves.takeLift (h : Hose) : Moves a s (s.takeLift h) := by
  refine Moves.ite (fun lifts => ?_) fun _ => Moves.refl s
  simp only [Bool.and_eq_true, beq_iff_eq] at lifts
  have idle : (s.slots.get h).state = .idle := lifts.2
  refine Moves.comp (Moves.setInactive h rfl ?_) (Moves.comp (Moves.modSlot h _ ?_) (Moves.comp
    (Moves.startQualifying (.nr h)) (Moves.modHoseCtl_same h _ rfl rfl rfl)))
  · rw [State.slotState, State.modSlot_slots, PerHose.get_set_same]; rfl
  · exact idle.symm

theorem Moves.nozzleLift (h : Hose) :
    Moves s.awake s (if s.switches.nozzleIn.get h = false then s
      else if s.isNormal then (s.setNozzle h false).takeLift h else s.setNozzle h false) :=
  Moves.ite (fun _ => Moves.refl s) fun _ => Moves.ite
    (fun _ => Moves.comp (Moves.takeLift h) (Moves.switches _)) fun _ => Moves.switches _

theorem Moves.nozzleReturn (h : Hose) : ∃ u, execNozzleReturn h s = u.finish ∧ Moves s.awake s u := by
  refine ⟨_, rfl, Moves.ite (fun _ => Moves.refl s) fun _ => Moves.ite (fun n => ?_) fun _ => Moves.switches _⟩
  have ended := Moves.comp (Moves.endSlot (State.awake_of_isNormal n) h .nozzleReturned) (Moves.comp
    (Moves.modHoseCtl_same (s := s.setNozzle h true) h (fun c => { c with liftArmed := true }) rfl rfl rfl)
    (Moves.switches _))
  exact Moves.ite (fun _ => Moves.comp (Moves.checkVariance _) ended) fun _ => ended

theorem Moves.stopFill (awake : a) (c : Comp) : Moves a s (s.stopFill c) :=
  Moves.ite (fun _ => Moves.abortFill awake c) fun _ => Moves.refl s

theorem Moves.modPump (c : Comp) (f : PumpControl → PumpControl) : Moves a s (s.modPump c f) := Moves.quiet ..

theorem Moves.stopAll (awake : a) : Moves a s s.stopAll :=
  Moves.comp Moves.checkVariances (Moves.comp (Moves.stopFill awake .b) (Moves.comp (Moves.stopFill awake .a)
    (Moves.comp (Moves.endSlot awake .h3 _) (Moves.comp (Moves.endSlot awake .h2 _) (Moves.comp
      (Moves.endSlot awake .h1 _) (Moves.comp (Moves.modPump .b _) (Moves.modPump .a _)))))))

theorem Moves.holdMotion (awake : a) (h : Hose) : Moves a s (s.holdMotion h) :=
  Moves.ite (fun _ => Moves.addHold awake h _) fun _ => Moves.refl s

/-- Both gauges re-evaluated in a part that was awake where the supply was NORMAL. -/
theorem Moves.thenReview (m : Moves s.awake s t) : Moves s.awake s t.reviewGauges :=
  m.trans (Moves.reviewGauges fun n => .inl (m.supply ▸ n))

theorem Moves.emptyHistories : Moves a s s.emptyHistories := Moves.comp (Moves.modGauge .b _) (Moves.modGauge .a _)

theorem Moves.brakeReleased : ∃ u, execParkBrakeRelease s = u.finish ∧ Moves s.awake s u := by
  refine ⟨_, rfl, Moves.ite (fun _ => Moves.refl s) fun _ => Moves.thenReview (Moves.comp Moves.emptyHistories
    (Moves.ite (fun n => ?_) fun _ => Moves.switches _))⟩
  have awake : s.awake := State.awake_of_isNormal n
  exact Moves.comp (Moves.holdMotion awake .h3) (Moves.comp (Moves.holdMotion awake .h2) (Moves.comp
    (Moves.holdMotion awake .h1) (Moves.switches _)))

theorem Moves.brakeSet : ∃ u, execParkBrakeSet s = u.finish ∧ Moves s.awake s u := by
  refine ⟨_, rfl, Moves.ite (fun _ => Moves.thenReview (Moves.ite (fun n => ?_) fun _ => Moves.switches _))
    fun _ => Moves.refl s⟩
  have awake : s.awake := State.awake_of_isNormal n
  exact Moves.comp (Moves.removeHold awake .h3 _) (Moves.comp (Moves.removeHold awake .h2 _) (Moves.comp
    (Moves.removeHold awake .h1 _) (Moves.switches _)))

theorem Moves.flowStopExpiry (h : Hose) : ∃ u, execFlowStopExpiry h s = u.finish ∧ Moves s.awake s u := by
  refine ⟨_, rfl, Moves.ite (fun _ => Moves.ite (fun flows => ?_) fun _ => Moves.modHoseCtl_same h _ rfl rfl rfl)
    fun _ => Moves.refl s⟩
  refine Moves.comp (Moves.setRunning h rfl ?_) (Moves.comp (Moves.modHoseCtl_same h _ rfl rfl rfl)
    (Moves.modHoseCtl_same h _ rfl rfl rfl))
  have flowing : (s.slots.get h).state = .flowing := flows
  simp [State.slotState, flowing, SlotState.running]

theorem Moves.noFlowExpiry (h : Hose) : ∃ u, execNoFlowExpiry h s = u.finish ∧ Moves s.awake s u := by
  refine ⟨_, rfl, Moves.ite (fun runs => ?_) fun _ => Moves.refl s⟩
  have awake : s.awake := State.awake_of_hoseTimer (h := h) fun none => by rw [none.2.1] at runs; cases runs
  have ended := Moves.modHoseCtl (s := s) h (fun c => { c with noFlow := none }) (.inl awake)
  exact Moves.ite (fun _ => Moves.comp (Moves.enterClosing awake h _) ended) fun _ => ended

theorem Moves.pauseExpiry (h : Hose) : ∃ u, execPauseTimerExpiry h s = u.finish ∧ Moves s.awake s u := by
  refine ⟨_, rfl, Moves.ite (fun runs => ?_) fun _ => Moves.refl s⟩
  have awake : s.awake := State.awake_of_hoseTimer (h := h) fun none => by rw [none.2.2.1] at runs; cases runs
  have ended := Moves.modHoseCtl (s := s) h (fun c => { c with pause := none }) (.inl awake)
  exact Moves.ite (fun _ => Moves.comp (Moves.enterClosing awake h _) ended) fun _ => ended

theorem Moves.settleExpiry (h : Hose) : ∃ u, execSettleTimerExpiry h s = u.finish ∧ Moves s.awake s u := by
  refine ⟨_, rfl, Moves.ite (fun runs => ?_) fun _ => Moves.refl s⟩
  have awake : s.awake := State.awake_of_hoseTimer (h := h) fun none => by rw [none.1] at runs; cases runs
  have ended := Moves.modHoseCtl (s := s) h (fun c => { c with settle := none }) (.inl awake)
  exact Moves.ite (fun _ => Moves.comp (Moves.checkVariance _) (Moves.comp (Moves.complete awake h _) ended))
    fun _ => ended

theorem Moves.restoreExpiry (h : Hose) : ∃ u, execTagRestoreExpiry h s = u.finish ∧ Moves s.awake s u := by
  refine ⟨_, rfl, Moves.ite (fun runs => ?_) fun _ => Moves.refl s⟩
  have awake : s.awake := State.awake_of_hoseTimer (h := h) fun none => by rw [none.2.2.2] at runs; cases runs
  have ended := Moves.modTracking (s := s) h (fun k => { k with restoreWindow := none }) (.inl awake)
  exact Moves.ite (fun _ => Moves.comp (Moves.enterClosing awake h _) ended) fun _ => ended

theorem State.awake_of_qualifies {c : Comp} {st : ReceiptState} (q : (s.receipts.get c).qualifies st = true) :
    s.awake :=
  State.awake_of_receiptTimer (c := c) fun none => by simp [Receipt.qualifies, none.1] at q

theorem State.awake_of_limited {c : Comp} {st : ReceiptState} (q : (s.receipts.get c).limited st = true) : s.awake :=
  State.awake_of_receiptTimer (c := c) fun none => by simp [Receipt.limited, none.2] at q

theorem Moves.overfillReceipt (awake : a) (c : Comp) : Moves a s (s.overfillReceipt c) := by
  unfold State.overfillReceipt
  split
  · exact Moves.tripFill awake c
  · exact Moves.modReceipt_same c _ rfl rfl
  · exact Moves.refl s

theorem Moves.overfillAssert (c : Comp) : ∃ u, execOverfillAssert c s = u.finish ∧ Moves s.awake s u := by
  have raised : Moves s.awake s ((s.setOverfill c true).raise .overfill) :=
    Moves.comp (Moves.raise _) (Moves.switches _)
  exact ⟨_, rfl, Moves.ite (fun _ => Moves.refl s) fun _ => Moves.ite
    (fun n => Moves.comp (Moves.overfillReceipt (State.awake_of_isNormal n) c) raised) fun _ => raised⟩

theorem Moves.estopAssert : ∃ u, execEstopAssert s = u.finish ∧ Moves s.awake s u := by
  have raised : Moves s.awake s ((s.setEstop true).raise .estop) := Moves.comp (Moves.raise _) (Moves.switches _)
  exact ⟨_, rfl, Moves.ite (fun _ => Moves.refl s) fun _ => Moves.ite
    (fun n => Moves.comp (Moves.stopAll (State.awake_of_isNormal n)) raised) fun _ => raised⟩

theorem Moves.probeFrame (c : Comp) (level : Nat) (temp : Int) (ok : Bool) :
    ∃ u, execProbeFrame c level temp ok s = u.finish ∧ Moves s.awake s u := by
  refine ⟨_, rfl, ?_⟩
  have held := Moves.comp (a := s.awake) (Moves.holdReading c (frameOfProbe level temp ok)) (Moves.comp
    (Moves.reviewGauge (fun n => .inl n) c) (Moves.modGauge (s := s) c
      fun g => g.takeFrame (frameOfProbe level temp ok) s.switches.brakeReleased (s.timer 5000)))
  refine held.trans (Moves.ite (fun trips => ?_) fun _ => Moves.refl _)
  simp only [Bool.and_eq_true, State.isNormal, beq_iff_eq] at trips
  exact Moves.comp (Moves.raise _) (Moves.tripFill (.inl (held.supply ▸ trips.1.1)) c)

theorem Channel.keeps_sample {kq : Nat} (c : Channel) (temp : Int) (absence hold : Timer) :
    c.keeps kq (c.validSample temp absence) ∧ c.keeps kq { c.loseSample hold with absenceTimer := absence } := by
  refine ⟨Channel.keeps_of_eq rfl rfl rfl rfl rfl (fun _ r => r.2.2.1) id id, ?_⟩
  unfold Channel.loseSample
  split
  · split <;> exact Channel.keeps_of_eq rfl rfl rfl rfl rfl (fun _ r => r.2.2.1) id id
  · exact Channel.keeps_of_eq rfl rfl rfl rfl rfl (fun _ r => r.2.2.1) id id

theorem Moves.temperatureSample (h : Hose) (valid : Bool) (temp : Int) :
    ∃ u, execTemperatureSample h valid temp s = u.finish ∧ Moves s.awake s u := by
  refine ⟨_, rfl, Moves.modChan h _ ?_⟩
  cases valid
  · exact (Channel.keeps_sample _ temp _ _).2
  · exact (Channel.keeps_sample _ temp _ none).1

theorem Moves.poll (r : Reader) (p : PollAnswer) : ∃ u, execPollResult r p s = u.finish ∧ Moves s.awake s u :=
  ⟨_, rfl, Moves.ite (fun n => Moves.takePoll (State.awake_of_isNormal n) r _) fun _ => Moves.refl s⟩

theorem Moves.missInterval (h : Hose) : ∃ u, execTrackingMissInterval h s = u.finish ∧ Moves s.awake s u := by
  refine ⟨_, rfl, Moves.ite (fun misses => ?_) fun _ => Moves.refl s⟩
  simp only [Bool.and_eq_true] at misses
  exact Moves.trackingMiss (State.awake_of_isNormal misses.1.1) h

theorem Moves.clockTick : ∃ u, execClockTick s = u.finish ∧ Moves s.awake s u :=
  ⟨_, rfl, Moves.ite (fun _ => Moves.comp Moves.checkRollover (Moves.quiet ..)) fun _ => Moves.quiet ..⟩

theorem Moves.voided (c : Comp) : ∃ u, execFrameAbsenceExpiry c s = u.finish ∧ Moves s.awake s u :=
  ⟨_, rfl, Moves.ite (fun _ => Moves.comp (Moves.reviewGauge (fun n => .inl n) c) (Moves.modGauge c _))
    fun _ => Moves.refl s⟩

/-- The commands that take the supply to SAVED or back. -/
def Instr.movesSupply : Instr → Bool
  | .entryToSaved | .rideThrough | .powerOn _ _ => true
  | _ => false

/-- Every other command ends in a state it has moved to. -/
theorem exec_moves (c : Instr) (s : State) (stays : Instr.movesSupply c = false) :
    ∃ u, exec c s = u.finish ∧ Moves s.awake s u := by
  have port (i : Instr) (same : exec i s = (runCommand i s).finish) :
      ∃ u, exec i s = u.finish ∧ Moves s.awake s u := ⟨_, same, Moves.runCommand i⟩
  cases c with
  | voidTransfer p bytes => exact ⟨_, rfl, Moves.takeTransfer p bytes⟩
  | writeDiscarded p f => exact ⟨_, rfl, Moves.ite (fun _ => Moves.modPort p _) fun _ => Moves.takeFrame p f⟩
  | readTransfer p n => exact ⟨_, rfl, Moves.readBuffer p n⟩
  | unknownCommand p f => exact ⟨_, rfl, Moves.takeFrame p f⟩
  | pulseEdge h line high time =>
    exact ⟨_, rfl, Moves.comp (Moves.takeEdge (fun n => .inl n) h line high) (Moves.quiet ..)⟩
  | temperatureSample h v t => exact Moves.temperatureSample h v t
  | sampleAbsenceExpiry h =>
    exact ⟨_, rfl, Moves.ite (fun _ => Moves.modChan h _ (Channel.keeps_sample _ 0 _ _).2) fun _ => Moves.refl s⟩
  | holdTimerExpiry h =>
    exact ⟨_, rfl, Moves.ite (fun _ => Moves.modChan h _
      (Channel.keeps_of_eq rfl rfl rfl rfl rfl (fun _ r => r.2.2.1) id id)) fun _ => Moves.refl s⟩
  | nozzleLift h => exact ⟨_, rfl, Moves.nozzleLift h⟩
  | nozzleReturn h => exact Moves.nozzleReturn h
  | estopAssert => exact Moves.estopAssert
  | estopRelease =>
    exact ⟨_, rfl, Moves.ite (fun _ => Moves.comp (Moves.raise _) (Moves.switches _)) fun _ => Moves.refl s⟩
  | parkBrakeRelease => exact Moves.brakeReleased
  | parkBrakeSet => exact Moves.brakeSet
  | flowStopExpiry h => exact Moves.flowStopExpiry h
  | noFlowExpiry h => exact Moves.noFlowExpiry h
  | pauseTimerExpiry h => exact Moves.pauseExpiry h
  | settleTimerExpiry h => exact Moves.settleExpiry h
  | runOnExpiry c => exact ⟨_, rfl, Moves.modPump c _⟩
  | fieldUnsettled r => exact ⟨_, rfl, Moves.ite (fun _ => Moves.modReader r _) fun _ => Moves.refl s⟩
  | stableFieldExpiry r => exact ⟨_, rfl, Moves.ite (fun _ => Moves.modReader r _) fun _ => Moves.refl s⟩
  | qualifyLimitExpiry r => exact ⟨_, rfl, Moves.ite (fun _ => Moves.enterFault r) fun _ => Moves.refl s⟩
  | frontEndFault r => exact ⟨_, rfl, Moves.ite (fun _ => Moves.enterFault r) fun _ => Moves.refl s⟩
  | fieldLost r =>
    exact ⟨_, rfl, Moves.ite (fun _ => Moves.comp (Moves.startQualifying r) (Moves.discardPending r)) fun _ => Moves.refl s⟩
  | retryTimerExpiry => exact ⟨_, rfl, Moves.ite (fun _ => Moves.startQualifying .pr) fun _ => Moves.refl s⟩
  | pollTimerExpiry r => exact ⟨_, rfl, Moves.ite (fun _ => Moves.modReader r _) fun _ => Moves.refl s⟩
  | pollResult r p => exact Moves.poll r p
  | trackingMissInterval h => exact Moves.missInterval h
  | tagRestoreExpiry h => exact Moves.restoreExpiry h
  | logoffTimerExpiry =>
    exact ⟨_, rfl, Moves.ite (fun _ => Moves.comp Moves.logOff (Moves.quiet ..)) fun _ => Moves.refl s⟩
  | supervisorWindowExpiry =>
    exact ⟨_, rfl, Moves.ite (fun _ => Moves.comp (Moves.setTagEvent _ _ _) (Moves.supervisor none (.inr rfl)))
      fun _ => Moves.refl s⟩
  | identificationTimerExpiry h =>
    exact ⟨_, rfl, Moves.ite (fun _ => Moves.comp (Moves.checkVariance _) (Moves.abandon h)) fun _ => Moves.refl s⟩
  | overrideWindowExpiry h =>
    exact ⟨_, rfl, Moves.ite (fun _ => Moves.comp (Moves.checkVariance _) (Moves.abandon h)) fun _ => Moves.refl s⟩
  | rosterWaitExpiry m => exact ⟨_, rfl, Moves.ite (fun _ => Moves.expireRequest _) fun _ => Moves.refl s⟩
  | clockTick => exact Moves.clockTick
  | probeFrame c l t ok => exact Moves.probeFrame c l t ok
  | frameAbsenceExpiry c => exact Moves.voided c
  | inclinometerReading p r => exact ⟨_, rfl, Moves.thenReview (Moves.quiet ..)⟩
  | readingAbsenceExpiry =>
    exact ⟨_, rfl, Moves.ite (fun _ => Moves.thenReview (Moves.quiet ..)) fun _ => Moves.refl s⟩
  | validQualificationExpiry c =>
    exact ⟨_, rfl, Moves.ite (fun _ => Moves.comp (Moves.checkVariance c) (Moves.modGauge c _)) fun _ => Moves.refl s⟩
  | spacingTimerExpiry c =>
    exact ⟨_, rfl, Moves.ite (fun _ => Moves.comp (Moves.checkVariance c) (Moves.modGauge c _)) fun _ => Moves.refl s⟩
  | openingQualificationExpiry c =>
    exact ⟨_, rfl, Moves.ite (fun q => Moves.takeOpening (State.awake_of_qualifies q) c) fun _ => Moves.refl s⟩
  | openingLimitExpiry c =>
    exact ⟨_, rfl, Moves.ite (fun q => Moves.cancelReceipt (State.awake_of_limited q) c) fun _ => Moves.refl s⟩
  | settlingQualificationExpiry c =>
    exact ⟨_, rfl, Moves.ite (fun q => Moves.takeClosing (State.awake_of_qualifies q) c) fun _ => Moves.refl s⟩
  | settlingLimitExpiry c =>
    exact ⟨_, rfl, Moves.ite (fun q => Moves.closeUnavailable (State.awake_of_limited q) c) fun _ => Moves.refl s⟩
  | overfillAssert c => exact Moves.overfillAssert c
  | overfillRelease c => exact ⟨_, rfl, Moves.switches _⟩
  | calEnableAssert =>
    exact ⟨_, rfl, Moves.ite (fun _ => Moves.refl s) fun _ => Moves.comp (Moves.raise _) (Moves.switches _)⟩
  | calEnableRelease =>
    exact ⟨_, rfl, Moves.ite (fun _ => Moves.comp (Moves.raise _) (Moves.comp (Moves.modCal _ rfl rfl)
      (Moves.switches _))) fun _ => Moves.refl s⟩
  | entryToSaved | rideThrough | powerOn => cases stays
  | _ => exact port _ rfl

/-! ### The supply -/

/-- Every position of the one register that is held is held in the other. -/
theorem Register.count_le {r r' : Register} (sub : ∀ k, r.get k = none → r'.get k = none) :
    r'.count ≤ r.count := by
  have one (k : Holder) : boolBit (r'.get k).isSome ≤ boolBit (r.get k).isSome := by
    cases e : r.get k with
    | none => rw [sub k e]
    | some m => exact boolBit_le_one _
  have h1 := one (.hose .h1)
  have h2 := one (.hose .h2)
  have h3 := one (.hose .h3)
  have ra := one (.receipt .a)
  have rb := one (.receipt .b)
  simp only [Register.get, PerHose.get, PerComp.get] at h1 h2 h3 ra rb
  simp only [Register.count]
  omega

theorem SaveArea.holders_sub (v : SaveArea) (k : Holder) (free : v.register.get k = none) :
    v.holders.get k = none := by
  rcases k with h | c
  · cases h <;> simp only [Register.get, PerHose.get, SaveArea.holders] at free ⊢ <;> split <;> simp [free]
  · cases c <;> simp only [Register.get, PerComp.get, SaveArea.holders] at free ⊢ <;> simp [free]

/-- An emptied Save Area names no holder. -/
theorem State.saveEmptied.holders_count (empty : s.saveEmptied) : s.save.holders.count = 0 := by
  obtain ⟨slots, receipts⟩ := empty
  have all (k : Holder) : Register.empty.get k = none → s.save.holders.get k = none := fun _ => by
    rcases k with h | c
    · have := slots h
      cases h <;> simp only [Register.get, SaveArea.holders, PerHose.get] at this ⊢ <;> simp [this]
    · have := receipts c
      cases c <;> simp only [Register.get, SaveArea.holders, PerComp.get] at this ⊢ <;> simp [this]
  have := Register.count_le all
  have empty : Register.empty.count = 0 := by decide
  omega

/-- In NORMAL with an emptied Save Area, the journal invariant is that of the journal. -/
theorem State.JournalInv.of_normal (normal : s.supply = .normal) (sound : s.journal.sound) (empty : s.saveEmptied) :
    s.JournalInv := by
  have count := empty.holders_count
  obtain ⟨-, -, slots, numbers, -⟩ := id sound
  exact ⟨sound, ⟨by omega, by omega⟩, fun saved => absurd (normal.symm.trans saved) (by decide), fun _ => empty⟩

/-- A move keeps the journal invariant: an awake part is in NORMAL, and one that is not leaves the run alone. -/
theorem Moves.journalInv (m : Moves s.awake s t) (inv : s.JournalInv) : t.JournalInv := by
  obtain ⟨sound, fit, frozen, empty⟩ := inv
  cases supply : s.supply with
  | normal =>
    have emptied := empty supply
    refine State.JournalInv.of_normal (m.supply.trans supply) (m.sound sound) ?_
    simpa only [State.saveEmptied, m.save] using emptied
  | saved =>
    have asleep : ¬s.awake := by
      rintro (normal | thawed)
      · exact absurd (supply.symm.trans normal) (by decide)
      · exact thawed (frozen supply)
    obtain ⟨records, next, stays⟩ := m.asleep asleep
    refine ⟨m.sound sound, ?_, fun _ => stays (frozen supply), fun normal => ?_⟩
    · simpa only [State.savedHoldersFit, m.save, records, next] using fit
    · exact absurd (supply.symm.trans (m.supply.symm.trans normal)) (by decide)

theorem Moves.freezeHose (h : Hose) : Moves a s (s.freezeHose h) := by
  refine Moves.comp (Moves.modChan h _ ?_) (Moves.comp (Moves.modReader _ _) (Moves.comp (Moves.setPendingTag _ _)
    (Moves.comp (Moves.modTracking h _ (.inr fun _ => rfl)) (Moves.comp (Moves.modSlot h _ rfl)
      (Moves.modHoseCtl h _ (.inr ⟨fun _ => rfl, fun _ => rfl, fun _ => rfl⟩))))))
  exact Channel.keeps_of_eq rfl rfl rfl rfl rfl (fun _ r => r.2.2.1) id fun _ => Nat.zero_le _

theorem Moves.freezeComp (c : Comp) : Moves a s (s.freezeComp c) :=
  Moves.comp (Moves.modReceipt c _ (.inr ⟨fun _ => rfl, fun _ => rfl⟩)) (Moves.modPump c _)

/-- The blocks with their timers stopped, as the entry to SAVED leaves them before the save. -/
def State.stilled (s : State) : State :=
  ((((((s.freezeHose .h1).freezeHose .h2).freezeHose .h3).freezeComp .a).freezeComp .b).modReader .pr
    fun r => r.panelFrozen)

theorem Moves.stilled : Moves a s s.stilled :=
  Moves.comp (Moves.modReader _ _) (Moves.comp (Moves.freezeComp .b) (Moves.comp (Moves.freezeComp .a)
    (Moves.comp (Moves.freezeHose .h3) (Moves.comp (Moves.freezeHose .h2) (Moves.freezeHose .h1)))))

theorem State.enterSaved_eq :
    s.enterSaved = { s.stilled with supply := .saved, supervisor := none, save := s.stilled.saveArea } := rfl

theorem Kept.save : Kept s { s with supply := .saved, supervisor := none, save := s.saveArea } where
  pending := rfl
  cut := id
  bound := id
  meter := id
  cache := id
  stock := fun ⟨live, _, totals, _⟩ => ⟨live, fun c => by cases c <;> first | exact live .a | exact live .b, totals,
    fun h => by cases h <;> first | exact totals .h1 | exact totals .h2 | exact totals .h3⟩

theorem Kept.enterSaved : Kept s s.enterSaved := (Moves.stilled (a := True)).toKept.trans Kept.save

/-- The entry to SAVED stops every timer that could act, and saves holders that the register holds. -/
theorem State.enterSaved_journalInv (sound : s.journal.sound) : s.enterSaved.JournalInv := by
  have stilled := (Moves.stilled (a := True)).sound sound
  have count : s.stilled.saveArea.holders.count ≤ s.stilled.journal.register.count :=
    Register.count_le s.stilled.saveArea.holders_sub
  obtain ⟨-, -, slots, numbers, -⟩ := id stilled
  refine ⟨stilled, ⟨?_, ?_⟩, fun _ => ⟨fun h => ?_, fun c => ?_, rfl⟩, fun normal => nomatch normal⟩
  · exact (Nat.add_le_add_left count _).trans slots
  · exact (Nat.add_le_add_left count _).trans numbers
  · cases h <;> exact ⟨rfl, rfl, rfl, rfl⟩
  · cases c <;> exact ⟨rfl, rfl⟩

/-- A passage of the closure: nothing is broken, and no context joins the Save Area (R189). -/
structure Closes (s t : State) : Prop extends Kept s t where
  sound : s.journal.sound → t.journal.sound
  supply : t.supply = s.supply
  slots : ∀ h, s.save.slots.get h = none → t.save.slots.get h = none
  receipts : ∀ c, s.save.receipts.get c = none → t.save.receipts.get c = none

theorem Closes.refl (s : State) : Closes s s := ⟨Kept.refl s, id, rfl, fun _ => id, fun _ => id⟩

theorem Closes.trans (f : Closes s t) (g : Closes t u) : Closes s u :=
  ⟨f.toKept.trans g.toKept, g.sound ∘ f.sound, g.supply.trans f.supply, fun h => g.slots h ∘ f.slots h,
    fun c => g.receipts c ∘ f.receipts c⟩

theorem Moves.closes (m : Moves True s t) : Closes s t :=
  ⟨m.toKept, m.sound, m.supply, fun h e => by rw [m.save, e], fun c e => by rw [m.save, e]⟩

theorem Closes.dropSlot (h : Hose) : Closes s { s with save := { s.save with slots := s.save.slots.set h none } } :=
  ⟨⟨rfl, id, id, id, id, id⟩, id, rfl, PerHose.forall_set (P := fun k x => s.save.slots.get k = none → x = none)
    (fun _ => id) fun _ _ => rfl, fun _ => id⟩

theorem Closes.dropReceipt (c : Comp) :
    Closes s { s with save := { s.save with receipts := s.save.receipts.set c none } } :=
  ⟨⟨rfl, id, id, id, id, id⟩, id, rfl, fun _ => id, PerComp.forall_set
    (P := fun d x => s.save.receipts.get d = none → x = none) (fun _ => id) fun _ _ => rfl⟩

theorem Closes.closeSaved (h : Hose) (n : Option Nat) : Closes s (s.closeSaved h n) := by
  unfold State.closeSaved
  split
  · exact Closes.refl s
  · split
    · exact (Moves.complete trivial h _).closes.trans (Closes.dropSlot h)
    · exact Closes.refl s

theorem Closes.abandonSaved (h : Hose) : Closes s (s.abandonSaved h) :=
  (Moves.abandon h).closes.trans (Closes.dropSlot h)

theorem State.abandonSaved_slots (h : Hose) : (s.abandonSaved h).save.slots.get h = none := by
  simp [State.abandonSaved]

theorem Closes.continueSaved (c : Comp) : Closes s (s.continueSaved c) := by
  unfold State.continueSaved
  split
  · exact Closes.refl s
  · exact (Moves.continueReceipt trivial c _).closes.trans (Closes.dropReceipt c)

theorem State.continueSaved_receipts (c : Comp) : (s.continueSaved c).save.receipts.get c = none := by
  unfold State.continueSaved
  split
  · assumption
  · simp

/-- The closure at the three hoses. -/
def State.closeAll (s : State) (n : PerHose (Option Nat)) : State :=
  ((s.closeSaved .h1 n.h1).closeSaved .h2 n.h2).closeSaved .h3 n.h3

def State.abandonAll (s : State) : State := ((s.abandonSaved .h1).abandonSaved .h2).abandonSaved .h3

def State.continueAll (s : State) : State := (s.continueSaved .a).continueSaved .b

theorem Closes.closeAll (n : PerHose (Option Nat)) : Closes s (s.closeAll n) :=
  ((Closes.closeSaved .h1 _).trans (Closes.closeSaved .h2 _)).trans (Closes.closeSaved .h3 _)

theorem Closes.abandonAll : Closes s s.abandonAll :=
  ((Closes.abandonSaved .h1).trans (Closes.abandonSaved .h2)).trans (Closes.abandonSaved .h3)

theorem State.abandonAll_slots (h : Hose) : s.abandonAll.save.slots.get h = none := by
  cases h with
  | h1 => exact (Closes.abandonSaved .h3).slots _ ((Closes.abandonSaved .h2).slots _ (State.abandonSaved_slots .h1))
  | h2 => exact (Closes.abandonSaved .h3).slots _ (State.abandonSaved_slots .h2)
  | h3 => exact State.abandonSaved_slots .h3

theorem Closes.continueAll : Closes s s.continueAll := (Closes.continueSaved .a).trans (Closes.continueSaved .b)

theorem State.continueAll_receipts (c : Comp) : s.continueAll.save.receipts.get c = none := by
  cases c with
  | a => exact (Closes.continueSaved .b).receipts _ (State.continueSaved_receipts .a)
  | b => exact State.continueSaved_receipts .b

theorem Moves.resumeHose (h : Hose) : Moves a s (s.resumeHose h) :=
  Moves.comp (Moves.modHoseCtl_same h _ rfl rfl rfl) (Moves.modChan h _
    (Channel.keeps_of_eq rfl rfl rfl rfl rfl (fun _ r => r.2.2.1) id id))

/-- The blocks resumed after the closure, with the saved register emptied (R49, R69, R130). -/
def State.resumeAll (s : State) : State :=
  let t := ((s.resumeHose .h1).resumeHose .h2).resumeHose .h3
  (({ t with pumps := PerComp.all PumpControl.fresh, save := { t.save with register := Register.empty } }).startQualifying
    .pr).checkVariances

theorem Closes.resumeAll : Closes s s.resumeAll := by
  have hoses : Moves True s (((s.resumeHose .h1).resumeHose .h2).resumeHose .h3) :=
    Moves.comp (Moves.resumeHose .h3) (Moves.comp (Moves.resumeHose .h2) (Moves.resumeHose .h1))
  have empties (t : State) : Closes t
      { t with pumps := PerComp.all PumpControl.fresh, save := { t.save with register := Register.empty } } :=
    ⟨⟨rfl, id, id, id, id, id⟩, id, rfl, fun _ => id, fun _ => id⟩
  exact (hoses.closes.trans (empties _)).trans (Moves.closes (Moves.comp Moves.checkVariances (Moves.startQualifying .pr)))

/-- The supply back in NORMAL with the held events latched (R188, R189). -/
def State.restored (s : State) : State := ({ s with supply := .normal, resetCause := .supplyRestore }).latchHeld

theorem Kept.restored : Kept s s.restored := ⟨rfl, id, id, id, id, id⟩

theorem State.returnToNormal_eq :
    s.returnToNormal = ((s.restored.closeAll
      ⟨s.restored.unmeteredOf .h1, s.restored.unmeteredOf .h2, s.restored.unmeteredOf .h3⟩).abandonAll.continueAll).resumeAll :=
  rfl

theorem Closes.returnToNormal : Closes s.restored s.returnToNormal := by
  rw [State.returnToNormal_eq]
  exact (((Closes.closeAll _).trans Closes.abandonAll).trans Closes.continueAll).trans Closes.resumeAll

theorem State.returnToNormal_journalInv (sound : s.journal.sound) : s.returnToNormal.JournalInv := by
  refine State.JournalInv.of_normal Closes.returnToNormal.supply (Closes.returnToNormal.sound sound) ⟨fun h => ?_, fun c => ?_⟩
  · exact Closes.resumeAll.slots h (Closes.continueAll.slots h (State.abandonAll_slots h))
  · exact Closes.resumeAll.receipts c (State.continueAll_receipts c)

/-- The part as a power-on finds it: the time and the clock afresh, the levels of lines and switches read (R192). -/
def State.levelled (s : State) (lines : PerHose LineLevels) (switches : Switches) : State :=
  { s with
    now := 0, clock := Clock.fresh, switches := switches
    chan := ⟨s.chan.h1.withLevels lines.h1, s.chan.h2.withLevels lines.h2, s.chan.h3.withLevels lines.h3⟩ }

theorem Kept.levelled (lines : PerHose LineLevels) (switches : Switches) : Kept s (s.levelled lines switches) where
  pending := rfl
  cut := id
  bound inv
    | .h1 => inv .h1
    | .h2 => inv .h2
    | .h3 => inv .h3
  meter inv := ⟨fun
    | .h1 => inv.1 .h1
    | .h2 => inv.1 .h2
    | .h3 => inv.1 .h3, fun
    | .h1 => inv.2 .h1
    | .h2 => inv.2 .h2
    | .h3 => inv.2 .h3⟩
  cache := id
  stock := fun ⟨live, saved, totals, savedTotals⟩ => ⟨live, saved, fun
    | .h1 => totals .h1
    | .h2 => totals .h2
    | .h3 => totals .h3, savedTotals⟩

/-- The RAM started with the figures and the holders of the Save Area (R173, R192). -/
def State.poweredOn (s : State) (lines : PerHose LineLevels) (switches : Switches) : State :=
  ((s.levelled lines switches).started .powerOn s.save.stock s.save.totals).modJournal fun j =>
    { j with register := s.save.holders }

theorem Kept.poweredOn (lines : PerHose LineLevels) (switches : Switches) : Kept s (s.poweredOn lines switches) := by
  have register (t : State) : Kept t (t.modJournal fun j => { j with register := s.save.holders }) :=
    ⟨rfl, id, id, id, id, id⟩
  exact ((Kept.levelled lines switches).trans (Kept.started _ _ _ fun ⟨_, saved, _, savedTotals⟩ =>
    ⟨saved, savedTotals⟩)).trans (register _)

theorem State.poweredOn_sound (lines : PerHose LineLevels) (switches : Switches) (inv : s.JournalInv) :
    (s.poweredOn lines switches).journal.sound := by
  obtain ⟨sound, ⟨slots, numbers⟩, -⟩ := inv
  exact sound.withRegister slots numbers

/-- The Save Area without its slots and its register, as the cold closure leaves it. -/
def State.slotsForgotten (s : State) : State :=
  { s with save := { s.save with slots := PerHose.all none, register := Register.empty } }

theorem Closes.slotsForgotten : Closes s s.slotsForgotten :=
  ⟨⟨rfl, id, id, id, id, id⟩, id, rfl, fun h _ => PerHose.get_all none h, fun _ => id⟩

theorem State.powerUp_eq (lines : PerHose LineLevels) (switches : Switches) :
    s.powerUp lines switches = ((s.poweredOn lines switches).closeAll
      (PerHose.all none)).continueAll.slotsForgotten.startJournal.checkRollover := rfl

theorem Closes.begun : Closes s s.startJournal.checkRollover := Moves.closes (Moves.comp Moves.checkRollover Moves.startJournal)

theorem Closes.powerUp (lines : PerHose LineLevels) (switches : Switches) :
    Closes (s.poweredOn lines switches) (s.powerUp lines switches) := by
  rw [State.powerUp_eq]
  exact (((Closes.closeAll _).trans Closes.continueAll).trans Closes.slotsForgotten).trans Closes.begun

theorem State.powerUp_journalInv (lines : PerHose LineLevels) (switches : Switches) (inv : s.JournalInv) :
    (s.powerUp lines switches).JournalInv := by
  refine State.JournalInv.of_normal (Closes.powerUp lines switches).supply
    ((Closes.powerUp lines switches).sound (State.poweredOn_sound lines switches inv)) ⟨fun h => ?_, fun c => ?_⟩
  · exact Closes.begun.slots h (PerHose.get_all none h)
  · exact Closes.begun.receipts c (Closes.slotsForgotten.receipts c (State.continueAll_receipts c))

/-! ### Every command -/

/-- Every command ends in driving the lines. -/
theorem exec_finish (c : Instr) (s : State) : ∃ u, exec c s = u.finish ∧ Kept s u ∧ (s.JournalInv → u.JournalInv) := by
  cases moves : Instr.movesSupply c with
  | false =>
    obtain ⟨u, e, m⟩ := exec_moves c s moves
    exact ⟨u, e, m.toKept, m.journalInv⟩
  | true =>
    cases c with
    | entryToSaved =>
      refine ⟨_, rfl, ?_⟩
      split
      · exact ⟨Kept.enterSaved, fun inv => State.enterSaved_journalInv inv.1⟩
      · exact ⟨Kept.refl s, id⟩
    | rideThrough =>
      refine ⟨_, rfl, ?_⟩
      split
      · exact ⟨Kept.refl s, id⟩
      · exact ⟨Kept.restored.trans Closes.returnToNormal.toKept, fun inv => State.returnToNormal_journalInv inv.1⟩
    | powerOn lines switches =>
      exact ⟨_, rfl, (Kept.poweredOn lines switches).trans (Closes.powerUp lines switches).toKept,
        State.powerUp_journalInv lines switches⟩
    | _ => cases moves

/-- An invariant that reads neither the queue nor the driven lines, and that every command's work keeps, is kept by
every step. -/
theorem step_keeps {P : State → Prop} (queue : ∀ s q, P s → P { s with pending := q })
    (lines : ∀ s o, P s → P { s with out := o })
    (work : ∀ s u, Kept s u → (s.JournalInv → u.JournalInv) → P s → P u) {s t : State} (inv : P s)
    (e : step s = .next t) : P t := by
  unfold step at e
  split at e
  · cases e; exact inv
  · next c rest _ =>
    obtain ⟨u, exec_eq, kept, journal⟩ := exec_finish c { s with pending := rest }
    rw [exec_eq] at e
    rw [State.finish_next e]
    exact lines u _ (work _ u kept journal (queue s rest inv))

/-- Settles O5: the moves keep the run (`Moves.journalInv`), and the three supply commands end with the holders they
saved or with none. -/
theorem journalRunKept : Obligations.JournalRunKept := fun _ _ =>
  step_keeps (fun _ _ => id) (fun _ _ => id) fun _ _ _ journal => journal

/-- Settles O6: the cut flag is written by its evaluation alone, which closes the slots that run (`Moves.evaluateCut`). -/
theorem cutFlagKept : Obligations.CutFlagKept := fun _ _ =>
  step_keeps (fun _ _ => id) (fun _ _ => id) fun _ _ kept _ => kept.cut

/-- Settles O7: a channel binds as its slot becomes READY and unbinds as it returns to IDLE (`Moves.slotAndChan`). -/
theorem bindingKept : Obligations.BindingKept := fun _ _ =>
  step_keeps (fun _ _ => id) (fun _ _ => id) fun _ _ kept _ => kept.bound

/-- Settles O8, by `Channel.keeps` of each pulse. -/
theorem meterRangesKept : Obligations.MeterRangesKept := fun _ _ =>
  step_keeps (fun _ _ => id) (fun _ _ => id) fun _ _ kept _ => kept.meter

/-- Settles O9: entries are put where their machine is not found, or replaced in their way (`Roster.placed`). -/
theorem cacheKept : Obligations.CacheKept := fun _ _ =>
  step_keeps (fun _ _ => id) (fun _ _ => id) fun _ _ kept _ => kept.cache

/-- Settles O10: the counters are taken modulo their modulus, and book stock is limited or refused. -/
theorem stockRangesKept : Obligations.StockRangesKept := fun _ _ =>
  step_keeps (fun _ _ => id) (fun _ _ => id) fun _ _ kept _ => kept.stock

/-- Settles O2: each command's work keeps the queue, and ends in `State.finish`. -/
theorem everyCommandAnswers : Obligations.EveryCommandAnswers := fun c s => by
  obtain ⟨u, e, kept, -⟩ := exec_finish c s
  exact ⟨_, e, kept.pending, (u.outputs_out u.outputs).symm⟩

end Sys2Proof.Machine
end

section
/-! The step, the driven lines, the state after reset, and whole transfers on a port: how a command is taken, turned
away or discarded, and how the bytes of a transfer are judged. -/

namespace Sys2Proof.Machine

open Sys2Proof

variable {s t u : State} {p : Port}

/-! ### The step and the lines -/

/-- Settles O1: both clauses are the two branches of `step`. -/
theorem stepRunsFrontCommand : Obligations.StepRunsFrontCommand := by
  refine ⟨fun _ _ _ => rfl, fun s empty => ?_⟩
  unfold step
  rw [empty]

theorem State.drivesForced_eq_false {c : Comp} :
    s.drivesForced c = false ↔ s.switches.estop = false ∧ s.supply = .normal ∧ (s.stock.get c).cut = false := by
  simp [State.drivesForced, State.isNormal, and_assoc]

theorem State.inletForced_eq_false {c : Comp} :
    s.inletForced c = false
      ↔ s.switches.overfill.get c = false ∧ s.switches.estop = false ∧ s.supply = .normal := by
  simp [State.inletForced, State.isNormal, and_assoc]

theorem State.outputs_main (h : Hose) : s.outputs.main.get h = s.mainOpen h := by cases h <;> rfl

theorem State.outputs_slow (h : Hose) : s.outputs.slow.get h = s.slowOpen h := by cases h <;> rfl

theorem State.outputs_pump (c : Comp) : s.outputs.pump.get c = s.pumpRuns c := by cases c <;> rfl

theorem State.outputs_inlet (c : Comp) : s.outputs.inlet.get c = s.inletOpen c := by cases c <;> rfl

theorem State.outputs_atn (p : Port) : s.outputs.atn.get p = (s.ports.get p).atn := by cases p <;> rfl

theorem SlotState.delivers_iff {x : SlotState} : x.delivers = true ↔ x = .ready ∨ x = .flowing ∨ x = .slowing := by
  cases x <;> simp [SlotState.delivers]

/-- Settles O3: after every command the lines are at `State.outputs`, whose drives are under `State.drivesForced` and
`State.inletForced`. -/
theorem drivesOpenOnlyWhenAllowed : Obligations.DrivesOpenOnlyWhenAllowed := by
  intro c s t run
  obtain ⟨u, e, -⟩ := exec_finish c s
  obtain rfl := State.finish_next (e.symm.trans run)
  refine ⟨fun h main => ?_, fun h slow => ?_, fun h drive => ?_, fun k inlet => ?_⟩
  · have mainOpen : u.mainOpen h = true := State.outputs_main h ▸ main
    simp only [State.mainOpen, Bool.and_eq_true, Bool.or_eq_true, beq_iff_eq] at mainOpen
    exact mainOpen.1
  · have slowOpen : u.slowOpen h = true := State.outputs_slow h ▸ slow
    simp only [State.slowOpen, Bool.and_eq_true, SlotState.delivers_iff] at slowOpen
    exact slowOpen.1
  · have free : u.drivesForced (hoseComp h) = false := by
      rw [State.outputs_main, State.outputs_slow, State.outputs_pump] at drive
      simp only [State.mainOpen, State.slowOpen, State.pumpRuns, Bool.and_eq_true, Bool.not_eq_true'] at drive
      exact drive.elim (·.2) (·.elim (·.2) (·.1))
    exact State.drivesForced_eq_false.mp free
  · have inletOpen : u.inletOpen k = true := State.outputs_inlet k ▸ inlet
    simp only [State.inletOpen, Bool.and_eq_true, beq_iff_eq, Bool.not_eq_true'] at inletOpen
    exact ⟨inletOpen.1, State.inletForced_eq_false.mp inletOpen.2⟩

/-! ### The state after reset -/

theorem Roster.entryAt_manufactured (w : WayRef) : Roster.manufactured.entryAt w = none := by
  obtain ⟨i, v⟩ := w
  revert i v
  decide

theorem State.reset_journalInv : State.reset.JournalInv :=
  ⟨⟨rfl, rfl, by decide, by decide, Nat.le_refl _, Nat.le_refl _⟩, ⟨by decide, by decide⟩,
    fun saved => SupplyState.noConfusion saved, fun _ => ⟨fun h => by cases h <;> rfl, fun c => by cases c <;> rfl⟩⟩

theorem State.reset_cutInv : State.reset.CutInv :=
  fun c => ⟨by cases c <;> decide, fun _ h _ => by cases h <;> rfl⟩

theorem State.reset_meterInv : State.reset.MeterInv := by
  refine ⟨fun h => by cases h <;> rfl, fun h => ?_⟩
  cases h <;> exact ⟨by decide, by decide, nofun, nofun, by decide, by decide, by decide⟩

theorem State.reset_cacheInv : State.reset.CacheInv :=
  fun _ _ _ found => nomatch (Roster.entryAt_manufactured _).symm.trans found

theorem State.reset_stockInv : State.reset.StockInv :=
  ⟨fun c => by cases c <;> exact ⟨by decide, by decide, by decide, by decide, by decide⟩,
    fun c => by cases c <;> exact ⟨by decide, by decide, by decide, by decide, by decide⟩,
    fun h => by cases h <;> decide, fun h => by cases h <;> decide⟩

/-- Settles O11: the journal and the cache are empty, every slot is IDLE with its channel unbound, and every figure
is 0. -/
theorem resetMeetsInvariants : Obligations.ResetMeetsInvariants :=
  ⟨State.reset_journalInv, State.reset_cutInv, State.reset_meterInv, State.reset_cacheInv, State.reset_stockInv⟩

/-! ### How a port takes a command -/

@[simp] theorem onPanel_eq (p : Port) : onPanel p = (p == .panel) := by cases p <;> rfl

@[simp] theorem onOffice_eq (p : Port) : onOffice p = (p == .office) := by cases p <;> rfl

@[simp] theorem onDepot_eq (p : Port) : onDepot p = (p == .depot) := by cases p <;> rfl

theorem exec_runCommand {c : Instr} (port : commandPort c = some p) : exec c s = (runCommand c s).finish := by
  cases c <;> first | rfl | cases port

theorem rosterFramed_of_fits {count : Byte} {entries : List WireEntry} (fits : rosterCountFits count entries = true) :
    rosterFramed count entries = true := by
  unfold rosterCountFits at fits
  unfold rosterFramed
  split at fits
  · simp [fits]
  · simp only [Bool.or_eq_true, decide_eq_true_eq]
    omega

theorem strapFramed_of_fits {count : Byte} {points : List WirePoint} (fits : strapCountFits count points = true) :
    strapFramed count points = true := by
  unfold strapCountFits at fits
  unfold strapFramed
  split at fits
  · simp [fits]
  · simp only [Bool.or_eq_true, decide_eq_true_eq]
    omega

/-- A well-formed port command is taken by its port, as 11.3 accepts it, and in SAVED for READ_STATUS alone. -/
theorem runCommand_taken {c : Instr} (port : commandPort c = some p) (wf : c.wellFormed = true) (s : State) :
    ∃ accepts whileSaved owner, runCommand c s = s.takeCommand p accepts whileSaved owner
      ∧ accepts p = acceptedOn c p ∧ (c ≠ .readStatus p → whileSaved = false) := by
  cases c with
  | loadRoster q count entries =>
    cases port
    exact ⟨onOffice, _, _, if_pos (rosterFramed_of_fits wf), by simp [acceptedOn], fun _ => rfl⟩
  | calStrapLoad q comp start count points =>
    cases port
    exact ⟨onDepot, _, _, if_pos (strapFramed_of_fits wf), by simp [acceptedOn], fun _ => rfl⟩
  | readStatus q =>
    cases port
    exact ⟨onAny, _, _, rfl, rfl, fun other => absurd rfl other⟩
  | _ => cases port <;> exact ⟨_, _, _, rfl, by simp [acceptedOn, onAny], fun _ => rfl⟩

theorem State.turnAway_occupied {st : Status} (occupied : (s.ports.get p).buffer ≠ none) :
    s.turnAway p st = s.discardFrame p := if_pos (Option.isSome_iff_ne_none.mpr occupied)

theorem State.turnAway_empty {st : Status} (empty : (s.ports.get p).buffer = none) :
    s.turnAway p st = s.answer p (statusOnly st) := by simp [State.turnAway, statusOnly, empty]

/-- With the buffer occupied every command's frame is discarded, well-formed or not (R194). -/
theorem runCommand_occupied {c : Instr} (port : commandPort c = some p) (occupied : (s.ports.get p).buffer ≠ none) :
    runCommand c s = s.discardFrame p := by
  cases c with
  | loadRoster q count entries =>
    cases port
    show doLoadRoster p count entries s = _
    unfold doLoadRoster
    split
    · exact State.takeCommand_occupied occupied
    · exact State.turnAway_occupied occupied
  | calStrapLoad q comp start count points =>
    cases port
    show doCalStrapLoad p comp start count points s = _
    unfold doCalStrapLoad
    split
    · exact State.takeCommand_occupied occupied
    · exact State.turnAway_occupied occupied
  | _ => cases port <;> exact State.takeCommand_occupied occupied

theorem State.judge_wrongPort {accepts : Port → Bool} {whileSaved : Bool} {owner : State → Answer}
    (empty : (s.ports.get p).buffer = none) (refuses : accepts p = false) :
    s.takeCommand p accepts whileSaved owner = s.answer p (statusOnly .wrongPort) := by
  simp [State.takeCommand, State.judge, denied, statusOnly, empty, refuses]

theorem State.judge_saved {accepts : Port → Bool} {owner : State → Answer} (empty : (s.ports.get p).buffer = none)
    (takes : accepts p = true) (saved : s.supply = .saved) :
    s.takeCommand p accepts false owner = s.answer p (statusOnly .supplyLow) := by
  simp [State.takeCommand, State.judge, denied, statusOnly, State.isNormal, empty, takes, saved]

/-- An exec that touches one port alone, as a next state. -/
theorem exec_modPort {c : Instr} {f : PortState → PortState} (he : exec c s = (s.modPort p f).finish) :
    ∃ t, exec c s = .next t ∧ t.ports = s.ports.set p (f (s.ports.get p))
      ∧ t = { s with ports := t.ports, out := t.out } := ⟨_, he.trans (State.finish_eq _), rfl, rfl⟩

/-- Settles O12: check 4 of R195 before the owner sees the command, and the occupied buffer before check 3. -/
theorem portTurnsCommandsAway : Obligations.PortTurnsCommandsAway := by
  refine ⟨fun p s occupied c which =>
      exec_modPort (f := fun x => { x with shifted := [busyByte] }) ?_, fun c p s port wf refuses empty => ?_,
    fun c p s port wf takes other empty saved => ?_⟩
  · rcases which with port | ⟨f, rfl⟩
    · rw [exec_runCommand port, runCommand_occupied port occupied]
      rfl
    · exact congrArg State.finish (if_pos (Option.isSome_iff_ne_none.mpr occupied))
  · obtain ⟨accepts, whileSaved, owner, run, same, -⟩ := runCommand_taken port wf s
    refine answers_of_exec_eq_answer ?_
    rw [exec_runCommand port, run, State.judge_wrongPort empty (same.trans refuses)]
  · obtain ⟨accepts, whileSaved, owner, run, same, awake⟩ := runCommand_taken port wf s
    refine answers_of_exec_eq_answer ?_
    rw [exec_runCommand port, run, awake other, State.judge_saved empty (same.trans takes) saved]

end Sys2Proof.Machine
end

section
/-! Whole transfers: what the decoder makes of a frame's bytes (R195, R202), that it reads back what the encoder writes,
and what READ, void and turned-away transfers leave. -/

namespace Sys2Proof.Machine

open Sys2Proof

variable {p : Port}

/-! ### Multi-byte fields -/

theorem word2_bytes2 (v : BitVec 16) : word2 (v.extractLsb' 8 8) (v.extractLsb' 0 8) = v :=
  (BitVec.extractLsb'_append_extractLsb'_eq_extractLsb' (show 8 = 0 + 8 from rfl)).trans BitVec.extractLsb'_eq_self

theorem word3_bytes3 (v : BitVec 24) :
    word3 (v.extractLsb' 16 8) (v.extractLsb' 8 8) (v.extractLsb' 0 8) = v := by
  unfold word3
  rw [BitVec.extractLsb'_append_extractLsb'_eq_extractLsb' (show 16 = 8 + 8 from rfl)]
  exact (BitVec.extractLsb'_append_extractLsb'_eq_extractLsb' (show 8 = 0 + 8 from rfl)).trans
    BitVec.extractLsb'_eq_self

theorem word4_bytes4 (v : BitVec 32) :
    word4 (v.extractLsb' 24 8) (v.extractLsb' 16 8) (v.extractLsb' 8 8) (v.extractLsb' 0 8) = v := by
  unfold word4
  rw [BitVec.extractLsb'_append_extractLsb'_eq_extractLsb' (show 24 = 16 + 8 from rfl),
    BitVec.extractLsb'_append_extractLsb'_eq_extractLsb' (show 16 = 8 + 8 from rfl)]
  exact (BitVec.extractLsb'_append_extractLsb'_eq_extractLsb' (show 8 = 0 + 8 from rfl)).trans
    BitVec.extractLsb'_eq_self

/-! ### Lists of entries and points -/

theorem readEntry_length {bytes rest : List Byte} {e : WireEntry} (read : readEntry bytes = some (e, rest)) :
    bytes.length = rest.length + 23 := by
  unfold readEntry at read
  split at read
  · cases read; rfl
  · cases read

theorem readEntries_length {n : Nat} {bytes : List Byte} {es : List WireEntry}
    (read : readEntries n bytes = some es) : bytes.length = 23 * n := by
  induction n generalizing bytes es with
  | zero =>
    cases bytes with
    | nil => rfl
    | cons b rest => cases read
  | succ n ih =>
    simp only [readEntries] at read
    split at read
    · cases read
    · next e rest head =>
      obtain ⟨es', tail, -⟩ := Option.map_eq_some_iff.mp read
      have := readEntry_length head
      have := ih tail
      omega

theorem readPoints_length {n : Nat} {bytes : List Byte} {qs : List WirePoint}
    (read : readPoints n bytes = some qs) : bytes.length = 6 * n := by
  induction n generalizing bytes qs with
  | zero =>
    cases bytes with
    | nil => rfl
    | cons b rest => cases read
  | succ n ih =>
    unfold readPoints at read
    split at read
    · cases ‹n + 1 = 0›
    · cases ‹n + 1 = 0›
    · next same =>
      obtain rfl := Nat.succ.inj same
      obtain ⟨qs', tail, -⟩ := Option.map_eq_some_iff.mp read
      have := ih tail
      simp only [List.length_cons]
      omega
    · cases read

theorem readEntry_entryBytes (e : WireEntry) (rest : List Byte) :
    readEntry (entryBytes e ++ rest) = some (e, rest) := by
  simp [readEntry, entryBytes, bytes3, bytes4, word3_bytes3, word4_bytes4]

theorem readEntries_flatMap (es : List WireEntry) : readEntries es.length (es.flatMap entryBytes) = some es := by
  induction es with
  | nil => rfl
  | cons e es ih => simp [readEntries, readEntry_entryBytes, ih]

theorem readPoints_flatMap (qs : List WirePoint) : readPoints qs.length (qs.flatMap pointBytes) = some qs := by
  induction qs with
  | nil => rfl
  | cons q qs ih => simp [readPoints, pointBytes, bytes2, bytes4, word2_bytes2, word4_bytes4, ih]

theorem length_flatMap_entryBytes (es : List WireEntry) : (es.flatMap entryBytes).length = 23 * es.length :=
  readEntries_length (readEntries_flatMap es)

theorem length_flatMap_pointBytes (qs : List WirePoint) : (qs.flatMap pointBytes).length = 6 * qs.length :=
  readPoints_length (readPoints_flatMap qs)

theorem readLoadRoster_encoded {count : Byte} {es : List WireEntry} (fits : rosterCountFits count es = true) :
    readLoadRoster p (count :: es.flatMap entryBytes) = some (.loadRoster p count es)
      ∧ (es.flatMap entryBytes).length ≤ 92 := by
  rw [length_flatMap_entryBytes]
  unfold rosterCountFits at fits
  unfold readLoadRoster
  split at fits
  · next within =>
    rw [beq_iff_eq] at fits
    simp only
    rw [if_pos within, ← fits, readEntries_flatMap]
    exact ⟨rfl, by omega⟩
  · next outside =>
    simp only
    rw [if_neg outside, List.isEmpty_iff.mp fits]
    exact ⟨rfl, by decide⟩

theorem readStrapLoad_encoded {comp start count : Byte} {qs : List WirePoint}
    (fits : strapCountFits count qs = true) :
    readStrapLoad p (comp :: start :: count :: qs.flatMap pointBytes) = some (.calStrapLoad p comp start count qs)
      ∧ (qs.flatMap pointBytes).length ≤ 48 := by
  rw [length_flatMap_pointBytes]
  unfold strapCountFits at fits
  unfold readStrapLoad
  split at fits
  · next within =>
    rw [beq_iff_eq] at fits
    simp only
    rw [if_pos within, ← fits, readPoints_flatMap]
    exact ⟨rfl, by omega⟩
  · next outside =>
    simp only
    rw [if_neg outside, List.isEmpty_iff.mp fits]
    exact ⟨rfl, by decide⟩

/-! ### The encoder's frames -/

/-- The frame of a well-formed port command is a code and a payload of at most 240 bytes that the command table reads
back. -/
theorem readCommand_encodeFrame {c : Instr} {f : List Byte} (wf : c.wellFormed = true) (port : commandPort c = some p)
    (enc : encodeFrame c = some f) :
    ∃ code payload, f = frameOf code payload ∧ payload.length ≤ 240
      ∧ readCommand p (BitVec.ofNat 8 code) payload = some (some c) := by
  cases c with
  | loadRoster q count es =>
    cases port; cases enc
    obtain ⟨read, short⟩ := readLoadRoster_encoded wf
    exact ⟨_, _, rfl, by simp only [List.length_cons]; omega, congrArg some read⟩
  | calStrapLoad q comp start count qs =>
    cases port; cases enc
    obtain ⟨read, short⟩ := readStrapLoad_encoded wf
    exact ⟨_, _, rfl, by simp only [List.length_append, List.length_cons, List.length_nil]; omega, congrArg some read⟩
  | _ =>
    cases port <;> cases enc <;> exact ⟨_, _, rfl, by simp [bytes2, bytes3, bytes4],
      by simp [readCommand, bytes2, bytes3, bytes4, word2_bytes2, word3_bytes3, word4_bytes4]⟩

theorem decodeFrame_frameOf {code : Nat} {payload : List Byte} {c : Instr} (short : payload.length ≤ 240)
    (read : readCommand p (BitVec.ofNat 8 code) payload = some (some c)) :
    decodeFrame p (frameOf code payload) = .command c := by
  have len : (BitVec.ofNat 8 payload.length).toNat = payload.length := by
    rw [BitVec.toNat_ofNat]; omega
  simp [frameOf, decodeFrame, len, read, show ¬240 < payload.length by omega]

/-- Settles O4: per row of the command table (`readCommand_encodeFrame`), with the two lists read by induction. -/
theorem encodeThenDecode : Obligations.EncodeThenDecode := by
  intro c p f wf port enc
  obtain ⟨code, payload, rfl, short, read⟩ := readCommand_encodeFrame wf port enc
  exact decodeFrame_frameOf short read

/-! ### Lengths and codes that are turned away -/

theorem readCommand_of_fixedLength {code : Byte} {payload : List Byte} {n : Nat}
    (fixed : fixedLength code.toNat = some n) (wrong : payload.length ≠ n) :
    readCommand p code payload = some none := by
  unfold readCommand
  split
  case h_44 => exact absurd fixed (by simp [fixedLength, *])
  all_goals
    rename_i named
    rw [named] at fixed
  case h_15 | h_41 => cases fixed
  all_goals
    cases fixed
    refine congrArg some ?_
    split
    · exact absurd rfl wrong
    · rfl

theorem readCommand_unknown {code : Byte} {payload : List Byte} (fixed : fixedLength code.toNat = none)
    (roster : code.toNat ≠ 0x20) (strap : code.toNat ≠ 0x3C) : readCommand p code payload = none := by
  unfold readCommand
  split
  case h_44 => rfl
  case h_15 named => exact absurd named roster
  case h_41 named => exact absurd named strap
  all_goals
    rename_i named
    rw [named] at fixed
    cases fixed

theorem readLoadRoster_length {count : Byte} {rest : List Byte} (lo : 1 ≤ count.toNat) (hi : count.toNat ≤ 4)
    (wrong : rest.length ≠ 23 * count.toNat) : readLoadRoster p (count :: rest) = none := by
  unfold readLoadRoster
  simp only
  rw [if_pos ⟨lo, hi⟩, Option.map_eq_none_iff, Option.eq_none_iff_forall_ne_some]
  exact fun es read => wrong (readEntries_length read)

theorem readStrapLoad_length {comp start count : Byte} {rest : List Byte} (lo : 1 ≤ count.toNat)
    (hi : count.toNat ≤ 8) (wrong : rest.length ≠ 6 * count.toNat) :
    readStrapLoad p (comp :: start :: count :: rest) = none := by
  unfold readStrapLoad
  simp only
  rw [if_pos ⟨lo, hi⟩, Option.map_eq_none_iff, Option.eq_none_iff_forall_ne_some]
  exact fun qs read => wrong (readPoints_length read)

theorem readStrapLoad_short {payload : List Byte} (short : payload.length < 3) : readStrapLoad p payload = none := by
  unfold readStrapLoad
  split
  · simp only [List.length_cons] at short
    omega
  · rfl

theorem readCommand_roster {code : Byte} {payload : List Byte} (named : code.toNat = 0x20) :
    readCommand p code payload = some (readLoadRoster p payload) := by simp [readCommand, named]

theorem readCommand_strap {code : Byte} {payload : List Byte} (named : code.toNat = 0x3C) :
    readCommand p code payload = some (readStrapLoad p payload) := by simp [readCommand, named]

theorem decodeFrame_short {f : List Byte} (short : f.length < 2) : decodeFrame p f = .badFrame := by
  unfold decodeFrame
  split
  · simp only [List.length_cons] at short
    omega
  · rfl

theorem decodeFrame_lengthByte {code len : Byte} {rest : List Byte} (wrong : 240 < len.toNat ∨ rest.length < len.toNat) :
    decodeFrame p (code :: len :: rest) = .badFrame := if_pos wrong

theorem decodeFrame_badFrame {code len : Byte} {rest : List Byte} (short : len.toNat ≤ 240)
    (whole : len.toNat ≤ rest.length) (read : readCommand p code (rest.take len.toNat) = some none) :
    decodeFrame p (code :: len :: rest) = .badFrame := by
  unfold decodeFrame
  simp only
  rw [if_neg (by omega), read]

theorem decodeFrame_unknownCode {code len : Byte} {rest : List Byte} (short : len.toNat ≤ 240)
    (whole : len.toNat ≤ rest.length) (read : readCommand p code (rest.take len.toNat) = none) :
    decodeFrame p (code :: len :: rest) = .unknownCode := by
  unfold decodeFrame
  simp only
  rw [if_neg (by omega), read]

/-! ### A decoded command is one of its port -/

theorem readLoadRoster_commandPort {payload : List Byte} {c : Instr} (read : readLoadRoster p payload = some c) :
    commandPort c = some p := by
  unfold readLoadRoster at read
  split at read
  · cases read
  · split at read
    · obtain ⟨_, -, rfl⟩ := Option.map_eq_some_iff.mp read
      rfl
    · cases read; rfl

theorem readStrapLoad_commandPort {payload : List Byte} {c : Instr} (read : readStrapLoad p payload = some c) :
    commandPort c = some p := by
  unfold readStrapLoad at read
  split at read
  · split at read
    · obtain ⟨_, -, rfl⟩ := Option.map_eq_some_iff.mp read
      rfl
    · cases read; rfl
  · cases read

theorem readCommand_commandPort {code : Byte} {payload : List Byte} {c : Instr}
    (read : readCommand p code payload = some (some c)) : commandPort c = some p := by
  unfold readCommand at read
  split at read
  case h_44 => cases read
  case h_15 => exact readLoadRoster_commandPort (Option.some.inj read)
  case h_41 => exact readStrapLoad_commandPort (Option.some.inj read)
  all_goals
    replace read := Option.some.inj read
    split at read
    · cases read; rfl
    · cases read

theorem decodeFrame_commandPort {f : List Byte} {c : Instr} (decoded : decodeFrame p f = .command c) :
    commandPort c = some p := by
  unfold decodeFrame at decoded
  split at decoded
  · split at decoded
    · cases decoded
    · split at decoded
      · cases decoded
      · cases decoded
      · next read =>
        cases decoded
        exact readCommand_commandPort read
  · cases decoded

/-! ### Transfers that act on nothing -/

variable {s : State}

theorem answers_of_badFrame {f : List Byte} (empty : (s.ports.get p).buffer = none)
    (decoded : decodeFrame p f = .badFrame) : answers (.unknownCommand p f) s [] p (statusOnly .badFrame) := by
  refine answers_of_exec_eq_answer ?_
  show (s.takeFrame p f).finish = _
  unfold State.takeFrame
  rw [decoded]
  exact congrArg State.finish (State.turnAway_empty empty)

theorem answers_of_unknownCode {f : List Byte} (empty : (s.ports.get p).buffer = none)
    (decoded : decodeFrame p f = .unknownCode) :
    answers (.unknownCommand p f) s [] p (statusOnly .unknownCommand) := by
  refine answers_of_exec_eq_answer ?_
  show (s.takeFrame p f).finish = _
  unfold State.takeFrame
  rw [decoded]
  exact congrArg State.finish (State.turnAway_empty empty)

theorem exec_voidTransfer {b : Byte} {rest : List Byte} (write : b ≠ 0x57#8) (read : b ≠ 0x52#8) :
    exec (.voidTransfer p (b :: rest)) s
      = (s.modPort p fun x => { x with shifted := List.replicate rest.length 0 }).finish := by
  show (s.takeTransfer p (b :: rest)).finish = _
  unfold State.takeTransfer
  simp only
  rw [if_neg (show b ≠ writeType from write), if_neg (show b ≠ readType from read)]
  rfl

/-- Settles O14: every frame named is turned away by the decoder (`answers_of_badFrame`, `answers_of_unknownCode`). -/
theorem badTransfersActOnNothing : Obligations.BadTransfersActOnNothing := by
  refine ⟨fun p b rest s write read => exec_modPort (exec_voidTransfer write read), fun p f s empty => ?_,
    fun p code len rest s empty => ?_, fun p len count rest s empty short whole lo hi wrong => ?_,
    fun p len comp start count rest s empty short whole lo hi wrong => ?_⟩
  · exact ⟨answers_of_badFrame empty, answers_of_unknownCode empty,
      fun short => answers_of_badFrame empty (decodeFrame_short short)⟩
  · refine ⟨fun wrong => answers_of_badFrame empty (decodeFrame_lengthByte wrong), fun short whole => ?_⟩
    have taken : (rest.take len.toNat).length = len.toNat := List.length_take_of_le whole
    refine ⟨fun n fixed wrong => ?_, fun named zero => ?_, fun named few => ?_, fun fixed roster strap => ?_⟩
    · exact answers_of_badFrame empty
        (decodeFrame_badFrame short whole (readCommand_of_fixedLength fixed fun e => wrong (taken.symm.trans e)))
    · refine answers_of_badFrame empty (decodeFrame_badFrame short whole ?_)
      rw [readCommand_roster named, zero]
      rfl
    · refine answers_of_badFrame empty (decodeFrame_badFrame short whole ?_)
      rw [readCommand_strap named, readStrapLoad_short (taken.trans_lt few)]
    · exact answers_of_unknownCode empty (decodeFrame_unknownCode short whole (readCommand_unknown fixed roster strap))
  · refine answers_of_badFrame empty (decodeFrame_badFrame short whole ?_)
    rw [readCommand_roster rfl]
    cases e : len.toNat with
    | zero => rfl
    | succ k =>
      rw [List.take_succ_cons, readLoadRoster_length lo hi]
      rw [List.length_take]
      omega
  · refine answers_of_badFrame empty (decodeFrame_badFrame short (by simpa using whole) ?_)
    rw [readCommand_strap rfl]
    by_cases few : len.toNat < 3
    · rw [readStrapLoad_short]
      rw [List.length_take]
      omega
    · obtain ⟨k, e⟩ := Nat.exists_eq_add_of_le (Nat.le_of_not_lt few)
      rw [e, Nat.add_comm 3 k, List.take_succ_cons, List.take_succ_cons, List.take_succ_cons,
        readStrapLoad_length lo hi]
      rw [List.length_take]
      omega

/-- Settles O15: both frame rows judge the frame's bytes (log 5). -/
theorem frameRunsItsCommand : Obligations.FrameRunsItsCommand := by
  intro p f c s empty decoded
  have frame : s.takeFrame p f = runCommand c s := by
    unfold State.takeFrame
    rw [decoded]
  have run : exec c s = (runCommand c s).finish := exec_runCommand (decodeFrame_commandPort decoded)
  refine ⟨?_, ?_⟩
  · show State.finish (if (s.ports.get p).buffer.isSome then _ else _) = _
    rw [if_neg (by simp [empty]), frame, run]
  · exact (congrArg State.finish frame).trans run.symm

end Sys2Proof.Machine
end

section
/-! Responses: what a READ transfer shifts out (R196), the lengths of the payloads and records (R202), and the commands
that read figures or event flags. -/

namespace Sys2Proof.Machine

open Sys2Proof

variable {s : State} {p : Port}

/-! ### Field lengths -/

@[simp] theorem length_beBytes (n v : Nat) : (beBytes n v).length = n := by
  induction n with
  | zero => rfl
  | succ n ih => simp [beBytes, ih]

@[simp] theorem length_field (n v : Nat) : (field n v).length = n := by
  unfold field
  split <;> exact length_beBytes ..

@[simp] theorem length_fieldInt (n : Nat) (v : Int) : (fieldInt n v).length = n := by
  unfold fieldInt
  split <;> exact length_beBytes ..

@[simp] theorem length_zeros (n : Nat) : (zeros n).length = n := List.length_replicate

@[simp] theorem length_opt {α : Type} {width : Nat} {x : Option α} {f : α → List Byte}
    (each : ∀ v, (f v).length = width) : (opt width x f).length = width := by
  cases x with
  | none => exact length_zeros width
  | some v => exact each v

@[simp] theorem length_seqField (n : Nat) : (seqField n).length = 4 := by
  unfold seqField
  split <;> simp

@[simp] theorem length_bytes2 (v : BitVec 16) : (bytes2 v).length = 2 := rfl

@[simp] theorem length_bytes3 (v : BitVec 24) : (bytes3 v).length = 3 := rfl

@[simp] theorem length_bytes4 (v : BitVec 32) : (bytes4 v).length = 4 := rfl

theorem field_one {v : Nat} (fits : v < 256) : field 1 v = [BitVec.ofNat 8 v] := by
  simp [field, beBytes, fits]

theorem length_flatMap_const {α : Type} {f : α → List Byte} {n : Nat} (each : ∀ v, (f v).length = n)
    (xs : List α) : (xs.flatMap f).length = n * xs.length := by
  simp [List.length_flatMap, each, Nat.mul_comm]

/-! ### READ transfers (R196) -/

theorem Status.code_lt (st : Status) : st.code < 256 := by cases st <;> decide

theorem Response.frame_eq {r : Response} (short : r.payload.length < 256) :
    r.frame = BitVec.ofNat 8 r.status.code :: BitVec.ofNat 8 r.payload.length :: r.payload := by
  unfold Response.frame
  rw [field_one r.status.code_lt, field_one short]
  rfl

theorem State.readBuffer_empty {n : Nat} (empty : (s.ports.get p).buffer = none) :
    s.readBuffer p n = s.modPort p fun x => { x with shifted := List.replicate n 0 } := by
  unfold State.readBuffer
  rw [empty]
  rfl

theorem State.readBuffer_whole {n : Nat} {r : Response} (waiting : (s.ports.get p).buffer = some r)
    (whole : r.frame.length ≤ n) :
    s.readBuffer p n = s.modPort p fun x =>
      { x with buffer := none, shifted := r.frame ++ List.replicate (n - r.frame.length) 0 } := by
  unfold State.readBuffer
  rw [waiting]
  simp only [if_pos whole, List.take_append, List.take_of_length_le whole, zeros, List.take_replicate,
    Nat.min_eq_left (Nat.sub_le n r.frame.length)]

theorem State.readBuffer_part {n : Nat} {r : Response} (waiting : (s.ports.get p).buffer = some r)
    (part : n < r.frame.length) :
    s.readBuffer p n = s.modPort p fun x => { x with buffer := some r, shifted := r.frame.take n } := by
  unfold State.readBuffer
  rw [waiting]
  simp only [if_neg (Nat.not_le_of_lt part), List.take_append_of_le_length part.le]

theorem State.readBuffer_frame (n : Nat) : ∃ f, s.readBuffer p n = s.modPort p f := by
  unfold State.readBuffer
  split <;> exact ⟨_, rfl⟩

/-- Settles O13. -/
theorem readTransferShiftsResponse : Obligations.ReadTransferShiftsResponse := by
  intro p n s
  have ports {f : PortState → PortState} (e : s.readBuffer p n = s.modPort p f) :
      ({ s.readBuffer p n with out := (s.readBuffer p n).outputs } : State).ports
        = s.ports.set p (f (s.ports.get p)) := by rw [e]; rfl
  refine ⟨_, State.finish_eq (s.readBuffer p n), fun empty => ports (State.readBuffer_empty empty),
    fun r waiting short => ?_, ?_⟩
  · rw [← Response.frame_eq short]
    refine ⟨fun whole => ports (State.readBuffer_whole waiting whole), fun part => ?_⟩
    rw [ports (State.readBuffer_part waiting part), ← waiting]
  · obtain ⟨f, e⟩ := State.readBuffer_frame (s := s) (p := p) n
    rw [e]
    rfl

/-! ### Commands that a port takes -/

/-- A command that its port takes and whose owner leaves the state as it was. -/
theorem answers_of_owner {c : Instr} {accepts : Port → Bool} {whileSaved : Bool} {owner : State → Answer}
    {r : Response} (run : exec c s = (s.takeCommand p accepts whileSaved owner).finish) (takes : s.takes p)
    (onPort : accepts p = true) (own : owner s = (s, r)) : answers c s [] p r := by
  refine answers_of_exec_eq_answer ?_
  rw [run, State.takeCommand_taken takes.1 onPort takes.2, own]

theorem forHose_of_some {b : Byte} {h : Hose} {f : Hose → Answer} (named : hoseOf b = some h) :
    forHose b s f = f h := by simp [forHose, named]

theorem forHose_of_none {b : Byte} {f : Hose → Answer} (unnamed : hoseOf b = none) :
    forHose b s f = denied s .outOfRange := by simp [forHose, unnamed]

theorem forComp_of_some {b : Byte} {k : Comp} {f : Comp → Answer} (named : compOf b = some k) :
    forComp b s f = f k := by simp [forComp, named]

theorem forComp_of_none {b : Byte} {f : Comp → Answer} (unnamed : compOf b = none) :
    forComp b s f = denied s .outOfRange := by simp [forComp, unnamed]

/-- Settles O16: each owner answers with its payload and the state as it is. -/
theorem readsAnswerAndChangeNothing : Obligations.ReadsAnswerAndChangeNothing := by
  refine ⟨fun s b h takes named => answers_of_owner rfl takes rfl (forHose_of_some named),
    fun s b i takes named => answers_of_owner rfl takes rfl ?_,
    fun s b k takes named => ⟨answers_of_owner rfl takes rfl (forComp_of_some named),
      answers_of_owner rfl takes rfl (forComp_of_some named)⟩,
    fun s x y takes => answers_of_owner rfl takes rfl rfl,
    fun s b y k takes named short => ⟨answers_of_owner rfl takes rfl ?_, answers_of_owner rfl takes rfl ?_⟩,
    fun s p takes => answers_of_owner rfl takes rfl rfl, fun s p empty => answers_of_exec_eq_answer ?_⟩
  · simp [ownReadAccounts, named, answerWith]
  · simp [ownReadCal, State.readTable, named, answerWith, Nat.not_lt.mpr short]
  · simp [ownReadCal, State.readTable, named, answerWith, Nat.not_lt.mpr short]
  · show (s.takeCommand p onAny true ownReadStatus).finish = _
    simp [State.takeCommand, State.judge, empty, onAny, ownReadStatus, answerWith]

/-! ### Event flags (R199, R200) -/

/-- Settles O18. -/
theorem eventFlagsReadAndMasked : Obligations.EventFlagsReadAndMasked := by
  refine ⟨fun p s takes => ?_, fun p m s takes => ⟨fun beyond => ?_, fun within => ?_⟩⟩
  · have run : exec (.readEvents p) s =
        ((s.modPort p fun x => { x with latched := 0 }).answer p ⟨.ok, s.eventsPayload p⟩).finish :=
      congrArg State.finish (State.takeCommand_taken takes.1 rfl takes.2)
    refine ⟨_, run.trans (State.finish_eq _), ?_, ?_, ?_, ?_, fun q other => ?_, ?_, rfl⟩
    · simp [State.answer]
    · simp [State.answer]
    · simp [State.answer]
    · simp [State.answer, State.eventsPayload]
    · simp [State.answer, other]
    · rw [State.outputs_atn]
      simp [State.answer, PortState.atn]
  · exact answers_of_owner rfl takes rfl (if_pos beyond)
  · have run : exec (.setEventMask p m) s =
        ((s.modPort p fun x => { x with mask := m }).answer p ⟨.ok, []⟩).finish := by
      refine (congrArg State.finish (State.takeCommand_taken takes.1 rfl takes.2)).trans ?_
      unfold ownSetEventMask
      rw [if_neg (Nat.not_le_of_lt within)]
      rfl
    refine ⟨_, run.trans (State.finish_eq _), ?_, ?_, rfl⟩
    · simp [State.answer]
    · rw [State.outputs_atn]
      simp [State.answer, PortState.atn]

/-! ### Layouts (R202) -/

@[simp] theorem Snapshot.length_bytes (v : Snapshot) : v.bytes.length = 6 := by simp [Snapshot.bytes]

@[simp] theorem RestockNotice.length_bytes (v : RestockNotice) : v.bytes.length = 8 := by simp [RestockNotice.bytes]

@[simp] theorem VarianceCheck.length_bytes (v : VarianceCheck) : v.bytes.length = 15 := by
  simp [VarianceCheck.bytes]

@[simp] theorem GaugeFrame.length_bytes (v : GaugeFrame) : v.bytes.length = 5 := by simp [GaugeFrame.bytes]

@[simp] theorem StrapPoint.length_bytes (v : StrapPoint) : v.bytes.length = 6 := by simp [StrapPoint.bytes]

@[simp] theorem BasePage.length_bytes (v : Sys2Proof.BasePage) : (BasePage.bytes v).length = 4 := by simp [BasePage.bytes]

theorem NextPage.length_bytes (v : Sys2Proof.NextPage) : (NextPage.bytes v).length = 5 := by simp [NextPage.bytes]

@[simp] theorem CalSummary.length_bytes (v : CalSummary) : v.bytes.length = 8 := by cases v <;> simp [CalSummary.bytes]

@[simp] theorem length_tagEventBytes (e : Option TagEvent) : (tagEventBytes e).length = 8 := by simp [tagEventBytes]

@[simp] theorem length_refusalForm (h : Hose) : (s.refusalForm h).length = 3 := by
  unfold State.refusalForm
  split <;> simp

@[simp] theorem length_statusOf (c : Comp) : (s.statusOf c).length = 11 := by simp [State.statusOf]

@[simp] theorem length_ageField (counter time : Nat) : (ageField counter time).length = 4 := by
  unfold ageField
  split <;> simp

@[simp] theorem length_readingBytes (v : GaugeReading) : (s.readingBytes v).length = 17 := by simp [State.readingBytes]

@[simp] theorem length_stockOf (c : Comp) : (s.stockOf c).length = 80 := by simp [State.stockOf]

@[simp] theorem length_tableSummary (points : List StrapPoint) : (tableSummary points).length = 7 := by
  simp [tableSummary]

theorem length_calGeneral : s.calGeneral.length = 67 := by
  unfold State.calGeneral
  cases e : s.cal.staged <;> simp [e]

theorem length_receiptPayload (c : Comp) : (s.receiptPayload c).length = 67 := by
  unfold State.receiptPayload
  simp only [List.length_append, length_field, length_fieldInt, length_opt, Snapshot.length_bytes,
    List.length_singleton, implies_true]

theorem length_historyBytes {xs : List Nat} (short : xs.length ≤ 10) : (historyBytes xs).length = 20 := by
  simp only [historyBytes, List.length_append, length_zeros, length_flatMap_const (length_field 2)]
  omega

theorem length_gaugePayload {c : Comp} (short : (s.gauge.get c).history.length ≤ 10) :
    (s.gaugePayload c).length = 59 := by
  simp [State.gaugePayload, length_historyBytes short]

theorem length_hoseSlotBytes (h : Hose) : (s.hoseSlotBytes h).length = 33 := by simp [State.hoseSlotBytes]

theorem length_hoseMeterBytes (h : Hose) : (s.hoseMeterBytes h).length = 33 := by simp [State.hoseMeterBytes]

theorem length_hoseTagBytes {h : Hose} (short : (s.nozzleReader.get h).nextPages.length ≤ 3) :
    (s.hoseTagBytes h).length = 46 := by
  simp only [State.hoseTagBytes, List.length_append, length_flatMap_const NextPage.length_bytes, length_zeros,
    length_field, length_opt, BasePage.length_bytes, length_tagEventBytes, List.length_singleton, implies_true]
  omega

theorem length_hosePayload {h : Hose} (short : (s.nozzleReader.get h).nextPages.length ≤ 3) :
    (s.hosePayload h).length = 114 := by
  simp [State.hosePayload, length_hoseSlotBytes, length_hoseMeterBytes, length_hoseTagBytes short]

theorem length_dispenseBody (r : DispenseRecord) (c : Bool) : (r.body c).length = 57 := by
  unfold DispenseRecord.body
  simp only [List.length_append, length_field, length_fieldInt, length_opt, implies_true]

theorem length_receiptBody (r : ReceiptRecord) (c : Bool) : (r.body c).length = 63 := by
  unfold ReceiptRecord.body
  simp only [List.length_append, length_field, length_fieldInt, length_opt, Snapshot.length_bytes, implies_true]

theorem length_adjustmentBody (r : AdjustmentRecord) (c : Bool) : (r.body c).length = 17 := by
  simp [AdjustmentRecord.body]

theorem length_calibrationBody (r : CalibrationRecord) (c : Bool) : (r.body c).length = 28 := by
  simp [CalibrationRecord.body]

theorem length_unattributedBody (r : UnattributedRecord) (c : Bool) : (r.body c).length = 27 := by
  simp [UnattributedRecord.body]

/-- A record starts with its length, and its kind follows the length and the sequence number. -/
theorem JournalRecord.bytes_layout {r : JournalRecord} {kind n : Nat} {fields : List Byte}
    (body : r.body.bytes r.clockInvalid = (kind, fields)) (small : kind < 256) (count : fields.length + 6 = n)
    (short : n < 256) :
    r.bytes.length = n ∧ r.bytes[0]? = some (BitVec.ofNat 8 n) ∧ r.bytes[5]? = some (BitVec.ofNat 8 kind) := by
  have bytes : r.bytes = BitVec.ofNat 8 n :: (field 4 r.seq ++ BitVec.ofNat 8 kind :: fields) := by
    simp only [JournalRecord.bytes, body, List.length_append, length_field]
    rw [show 4 + 1 + fields.length + 1 = n by omega, field_one short, field_one small]
    simp
  rw [bytes]
  refine ⟨by simp; omega, rfl, ?_⟩
  rw [List.getElem?_cons_succ, List.getElem?_append_right (by simp)]
  simp

/-- Settles O17: the lengths of the fields add up. -/
theorem layoutWidths : Obligations.LayoutWidths := by
  refine ⟨fun s => ⟨by simp [State.statusPayload], by simp [State.stockPayload], by simp [Journal.summary],
    length_calGeneral, length_receiptPayload, fun h => length_hosePayload, fun k => length_gaugePayload⟩, fun r => ?_⟩
  obtain ⟨seq, mark, body⟩ := r
  cases body with
  | dispense r =>
    exact JournalRecord.bytes_layout (n := 63) (kind := 1) rfl (by decide)
      (congrArg (· + 6) (length_dispenseBody r mark)) (by decide)
  | receipt r =>
    exact JournalRecord.bytes_layout (n := 69) (kind := 2) rfl (by decide)
      (congrArg (· + 6) (length_receiptBody r mark)) (by decide)
  | adjustment r =>
    exact JournalRecord.bytes_layout (n := 23) (kind := 3) rfl (by decide)
      (congrArg (· + 6) (length_adjustmentBody r mark)) (by decide)
  | calibration r =>
    exact JournalRecord.bytes_layout (n := 34) (kind := 4) rfl (by decide)
      (congrArg (· + 6) (length_calibrationBody r mark)) (by decide)
  | unattributed r =>
    exact JournalRecord.bytes_layout (n := 33) (kind := 5) rfl (by decide)
      (congrArg (· + 6) (length_unattributedBody r mark)) (by decide)

end Sys2Proof.Machine
end

section
/-! What the shared operations make of the state, as equations: a slot's changes, the journal's free count, book stock
with its tests, and the flags, which no operation but READ_EVENTS takes down. -/

namespace Sys2Proof.Machine

open Sys2Proof

variable {s t u v : State} {p : Port} {h : Hose} {c : Comp}

/-! ### Latched flags -/

/-- Every flag latched in `s` is latched in `t`. -/
def FlagsStand (s t : State) : Prop :=
  ∀ p, ∃ more, (t.ports.get p).latched = (s.ports.get p).latched ||| more

theorem FlagsStand.of_ports (same : t.ports = s.ports) : FlagsStand s t :=
  fun p => ⟨0#16, by rw [same, BitVec.or_zero]⟩

theorem FlagsStand.refl (s : State) : FlagsStand s s := FlagsStand.of_ports rfl

theorem FlagsStand.trans (f : FlagsStand s t) (g : FlagsStand t u) : FlagsStand s u := by
  intro p
  obtain ⟨m, em⟩ := f p
  obtain ⟨n, en⟩ := g p
  exact ⟨m ||| n, by rw [en, em, BitVec.or_assoc]⟩

theorem FlagsStand.hasFlag {e : Event} (f : FlagsStand s t) (flag : (s.ports.get p).hasFlag p e = true) :
    (t.ports.get p).hasFlag p e = true := by
  obtain ⟨m, em⟩ := f p
  simp only [PortState.hasFlag, bne_iff_ne, ne_eq] at flag ⊢
  rw [em, BitVec.and_or_distrib_right]
  exact fun none => flag (BitVec.or_eq_zero_iff.mp none).1

theorem State.raise_port (e : Event) (p : Port) :
    (s.raise e).ports.get p = (s.ports.get p).raise s.isNormal (e.mask p) := by cases p <;> rfl

theorem FlagsStand.raise (s : State) (e : Event) : FlagsStand s (s.raise e) := by
  intro p
  rw [State.raise_port]
  unfold PortState.raise
  split
  · exact ⟨_, rfl⟩
  · exact ⟨0#16, BitVec.or_zero.symm⟩

theorem State.raise_mask (e : Event) (p : Port) : ((s.raise e).ports.get p).mask = (s.ports.get p).mask := by
  rw [State.raise_port]
  unfold PortState.raise
  split <;> rfl

theorem State.raise_buffer (e : Event) (p : Port) : ((s.raise e).ports.get p).buffer = (s.ports.get p).buffer := by
  rw [State.raise_port]
  unfold PortState.raise
  split <;> rfl

theorem FlagsStand.answer (s : State) (p : Port) (r : Response) : FlagsStand s (s.answer p r) := by
  intro q
  refine ⟨0#16, ?_⟩
  rw [BitVec.or_zero]
  by_cases same : q = p
  · subst same; simp [State.answer]
  · simp [State.answer, same]

theorem FlagsStand.ite {q : Prop} [Decidable q] (f : q → FlagsStand s t) (g : ¬q → FlagsStand s u) :
    FlagsStand s (if q then t else u) := by
  split
  · next yes => exact f yes
  · next no => exact g no

/-- In NORMAL an event latches its flag on every port that has it. -/
theorem State.raise_hasFlag {e : Event} (normal : s.supply = .normal) (has : e.mask p ≠ 0) :
    ((s.raise e).ports.get p).hasFlag p e = true := by
  rw [State.raise_port]
  simp only [PortState.raise, PortState.hasFlag, State.isNormal, normal, bne_iff_ne, ne_eq, beq_self_eq_true, if_true]
  rw [BitVec.and_or_distrib_right, BitVec.and_self]
  exact fun none => has (BitVec.or_eq_zero_iff.mp none).2

/-! ### Commands -/

/-- A command that its port takes ends in its owner's answer. -/
theorem exec_of_owner {i : Instr} {accepts : Port → Bool} {whileSaved : Bool} {owner : State → Answer} {r : Response}
    (run : exec i s = (s.takeCommand p accepts whileSaved owner).finish) (takes : s.takes p)
    (onPort : accepts p = true) (own : owner s = (u, r)) : exec i s = (u.answer p r).finish := by
  rw [run, State.takeCommand_taken takes.1 onPort takes.2, own]

theorem State.answer_buffer (r : Response) : ((u.answer p r).ports.get p).buffer = some r := by simp [State.answer]

/-! ### A slot's change of state -/

/-- The pumps after demand is recounted for a slot that enters `st`. -/
def State.recounted (s : State) (h : Hose) (st : SlotState) : PerComp PumpControl :=
  ((s.modSlot h fun x => { x with state := st }).recountDemand (hoseComp h)).pumps

theorem State.recounted_ne {st : SlotState} (other : c ≠ hoseComp h) : (s.recounted h st).get c = s.pumps.get c := by
  simp [State.recounted, State.recountDemand, other]

theorem State.recounted_demand (st : SlotState) :
    ((s.recounted h st).get (hoseComp h)).demand
      = (s.modSlot h fun x => { x with state := st }).demandOf (hoseComp h) := by
  simp [State.recounted, State.recountDemand]

theorem State.setSlotState_eq (st : SlotState) :
    s.setSlotState h st =
      { s with
        slots := s.slots.set h { s.slots.get h with state := st }
        pumps := s.recounted h st
        logoffTimer := (((s.modSlot h fun x => { x with state := st }).recountDemand (hoseComp h)).noteActivity
          (s.slotState h) st).logoffTimer
        ports := (s.raise (.hoseState h)).ports } := by
  unfold State.setSlotState
  rw [State.noteActivity_frame]
  rfl

theorem State.noteActivity_active {was now : SlotState} (before : was ≠ .idle) (after : now ≠ .idle) :
    s.noteActivity was now = s := by simp [State.noteActivity, before, after]

theorem State.noteActivity_leaves_idle {now : SlotState} (after : now ≠ .idle) :
    s.noteActivity .idle now = { s with logoffTimer := none } := by simp [State.noteActivity, after]

/-- Between two states other than IDLE the logoff timer stands. -/
theorem State.setSlotState_active {st : SlotState} (before : s.slotState h ≠ .idle) (after : st ≠ .idle) :
    s.setSlotState h st =
      { s with
        slots := s.slots.set h { s.slots.get h with state := st }
        pumps := s.recounted h st
        ports := (s.raise (.hoseState h)).ports } := by
  rw [State.setSlotState_eq, State.noteActivity_active before after]
  rfl

theorem State.setSlotState_from_idle {st : SlotState} (before : s.slotState h = .idle) (after : st ≠ .idle) :
    s.setSlotState h st =
      { s with
        slots := s.slots.set h { s.slots.get h with state := st }
        pumps := s.recounted h st
        logoffTimer := none
        ports := (s.raise (.hoseState h)).ports } := by
  rw [State.setSlotState_eq, before, State.noteActivity_leaves_idle after]

theorem FlagsStand.setSlotState (s : State) (h : Hose) (st : SlotState) : FlagsStand s (s.setSlotState h st) := by
  rw [State.setSlotState_eq]
  exact FlagsStand.raise s _

theorem SlotState.ne_idle_of_running {st : SlotState} (r : st.running = true) : st ≠ .idle := by
  rintro rfl
  cases r

theorem SlotState.ne_idle_of_waiting {st : SlotState} (w : st.waiting = true) : st ≠ .idle := by
  rintro rfl
  cases w

/-- What entry to CLOSING makes of the hose's control (R32). -/
def HoseControl.settling (k : HoseControl) (due : Timer) : HoseControl :=
  { k with
    flowStop := none, noFlow := none, pause := none, settle := due, flowWindow := [], leakWindow := [] }

theorem State.setSlotState_pumps_ne (st : SlotState) (other : c ≠ hoseComp h) :
    (s.setSlotState h st).pumps.get c = s.pumps.get c := by
  rw [State.setSlotState_eq]
  exact State.recounted_ne other

/-- Demand is the count of the compartment's slots that deliver (R42). -/
theorem State.setSlotState_demand (st : SlotState) :
    ((s.setSlotState h st).pumps.get (hoseComp h)).demand = (s.setSlotState h st).demandOf (hoseComp h) := by
  rw [State.setSlotState_eq]
  exact State.recounted_demand st

theorem State.enterClosing_pumps_ne (cause : EndCause) (other : c ≠ hoseComp h) :
    (s.enterClosing h cause).pumps.get c = s.pumps.get c := by
  unfold State.enterClosing
  split
  · exact State.setSlotState_pumps_ne _ other
  · rfl

/-- Entry to CLOSING of a running slot (R32). -/
theorem State.enterClosing_eq (cause : EndCause) (runs : (s.slotState h).running = true) :
    s.enterClosing h cause =
      { s with
        slots := s.slots.set h { s.slots.get h with state := .closing, endCause := some cause }
        hoseCtl := s.hoseCtl.set h ((s.hoseCtl.get h).settling (s.timer 1500))
        tracking := s.tracking.set h { s.tracking.get h with running := false, restoreWindow := none }
        pumps := (s.enterClosing h cause).pumps
        ports := (s.raise (.hoseState h)).ports } := by
  have active : s.slotState h ≠ .idle := SlotState.ne_idle_of_running runs
  unfold State.enterClosing
  rw [if_pos runs, State.setSlotState_active (by simpa [State.slotState] using active) (by decide)]
  simp only [State.modTracking_slots, State.modHoseCtl_slots, State.modSlot_slots, PerHose.get_set_same,
    PerHose.set_set]
  rfl

theorem FlagsStand.enterClosing (s : State) (h : Hose) (cause : EndCause) : FlagsStand s (s.enterClosing h cause) := by
  unfold State.enterClosing
  exact FlagsStand.ite (fun _ => FlagsStand.setSlotState _ h _) fun _ => FlagsStand.refl s

/-- Entry to SLOWING (R28, R29). -/
theorem State.enterSlowing_eq (active : s.slotState h ≠ .idle) :
    s.enterSlowing h =
      { s with
        slots := s.slots.set h { s.slots.get h with state := .slowing }
        hoseCtl := s.hoseCtl.set h { s.hoseCtl.get h with flowStop := none, flowWindow := [] }
        pumps := (s.enterSlowing h).pumps
        ports := (s.raise (.hoseState h)).ports } := by
  unfold State.enterSlowing
  rw [State.setSlotState_active (by exact active) (by decide)]
  rfl

theorem State.compareVolume_pumps_ne (other : c ≠ hoseComp h) :
    (s.compareVolume h).pumps.get c = s.pumps.get c := by
  rcases s.compareVolume_cases h with e | e | e <;> rw [e]
  · exact State.enterClosing_pumps_ne _ other
  · exact State.setSlotState_pumps_ne _ other

theorem FlagsStand.compareVolume (s : State) (h : Hose) : FlagsStand s (s.compareVolume h) := by
  rcases s.compareVolume_cases h with e | e | e <;> rw [e]
  · exact FlagsStand.enterClosing s h _
  · exact FlagsStand.setSlotState _ h _
  · exact FlagsStand.refl s

/-! ### The free count (R157, R162) -/

theorem State.noteFree_eq (before : Nat) :
    s.noteFree before =
      { s with
        journal := { s.journal with highLatch := (s.noteFree before).journal.highLatch }
        ports := (s.noteFree before).ports } := by
  obtain ⟨latch, ports, e⟩ := s.noteFree_frame before
  rw [e]

theorem State.noteFree_free (before : Nat) : (s.noteFree before).journal.free = s.journal.free := by
  rw [State.noteFree_eq]
  rfl

theorem FlagsStand.noteFree (s : State) (before : Nat) : FlagsStand s (s.noteFree before) := by
  unfold State.noteFree
  exact FlagsStand.ite (fun _ => FlagsStand.raise _ .journalHigh)
    fun _ => FlagsStand.ite (fun _ => FlagsStand.refl s) fun _ => FlagsStand.refl s

theorem State.noteFree_flag {before : Nat} (normal : s.supply = .normal) (high : 33 ≤ before)
    (low : s.journal.free ≤ 32) : ((s.noteFree before).ports.get .office).hasFlag .office .journalHigh = true := by
  unfold State.noteFree
  rw [if_pos ⟨high, low⟩]
  exact State.raise_hasFlag normal (by decide)

/-- The high mark follows where the free count is noted against the one before, and nothing later touches the
journal or takes a flag down. -/
theorem highMarkFollows_of_noteFree (supply : u.supply = s.supply) (latch : u.journal.highLatch = s.journal.highLatch)
    (journal : t.journal = (u.noteFree s.journal.free).journal) (flags : FlagsStand (u.noteFree s.journal.free) t) :
    highMarkFollows s t := by
  have free : t.journal.free = u.journal.free := by rw [journal, State.noteFree_free]
  refine ⟨?_, fun normal high low => flags.hasFlag (State.noteFree_flag (supply.trans normal) high (free ▸ low))⟩
  rw [free, journal, State.noteFree_latch, latch]

/-- A reservation (R158). -/
theorem State.reserveSlot_eq (k : Holder) :
    s.reserveSlot k =
      { s with
        journal := { s.journal with
          register := s.journal.register.put k (some !s.clock.valid)
          highLatch := (s.reserveSlot k).journal.highLatch }
        ports := (s.reserveSlot k).ports } := by
  unfold State.reserveSlot
  rw [State.noteFree_eq]
  rfl

/-- A release without a record (R160). -/
theorem State.releaseSlot_eq (k : Holder) :
    s.releaseSlot k =
      { s with
        journal := { s.journal with
          register := s.journal.register.put k none
          highLatch := (s.releaseSlot k).journal.highLatch }
        ports := (s.releaseSlot k).ports } := by
  unfold State.releaseSlot
  rw [State.noteFree_eq]
  rfl

/-- The latch and the cursor at a start (R162, R167). -/
theorem State.startJournal_eq (s : State) :
    s.startJournal =
      { s with
        journal := { s.journal with highLatch := s.startJournal.journal.highLatch, cursor := s.journal.oldest }
        ports := s.startJournal.ports } := by
  unfold State.startJournal
  simp only
  split <;> rfl

theorem FlagsStand.startJournal (s : State) : FlagsStand s s.startJournal := by
  unfold State.startJournal
  exact FlagsStand.ite (fun _ => FlagsStand.raise _ .journalHigh) fun _ => FlagsStand.refl s

theorem State.startJournal_mask (p : Port) : ((s.startJournal).ports.get p).mask = (s.ports.get p).mask := by
  unfold State.startJournal
  simp only
  split
  · exact State.raise_mask _ p
  · rfl

theorem State.startJournal_buffer (p : Port) : ((s.startJournal).ports.get p).buffer = (s.ports.get p).buffer := by
  unfold State.startJournal
  simp only
  split
  · exact State.raise_buffer _ p
  · rfl

/-- A direct append of a body that holds no CLOCK_INVALID of its own (R156, R161). -/
theorem State.appendDirect_eq {body : RecordBody} (own : body.ownClockInvalid = false) :
    s.appendDirect body =
      { s with
        journal := { s.journal with
          records := s.journal.records ++ [⟨s.journal.next, !s.clock.valid, body⟩]
          next := s.journal.next + 1
          highLatch := (s.appendDirect body).journal.highLatch }
        ports := (s.appendDirect body).ports } := by
  unfold State.appendDirect
  rw [State.noteFree_eq]
  simp [State.pushRecord, own, State.modJournal, State.raise]

theorem FlagsStand.appendDirect (s : State) (body : RecordBody) : FlagsStand s (s.appendDirect body) := by
  unfold State.appendDirect
  exact (FlagsStand.raise _ .journalNew).trans (FlagsStand.noteFree _ _)

theorem State.appendDirect_flag {body : RecordBody} (normal : s.supply = .normal) :
    ((s.appendDirect body).ports.get .office).hasFlag .office .journalNew = true :=
  (FlagsStand.noteFree _ _).hasFlag (State.raise_hasFlag normal (by decide))

end Sys2Proof.Machine
end

section
/-! The Panel commands that act on a slot or a hose: STOP, HOLD, RESUME, SET_PRESET, ENTER_HOURS, ACK_EXCEPTION, LOGOFF
and RESTART. -/

namespace Sys2Proof.Machine

open Sys2Proof

variable {s t u v : State} {p : Port} {h : Hose} {c : Comp}

/-! ### STOP (R38) -/

theorem State.enterClosing_slotState (cause : EndCause) (runs : (s.slotState h).running = true) :
    (s.enterClosing h cause).slotState h = .closing := by
  unfold State.slotState
  rw [State.enterClosing_slot s cause runs]

theorem State.mainOpen_of_closing (closing : s.slotState h = .closing) : s.mainOpen h = false := by
  simp [State.mainOpen, closing]

theorem State.slowOpen_of_closing (closing : s.slotState h = .closing) : s.slowOpen h = false := by
  simp [State.slowOpen, closing, SlotState.delivers]

/-- Settles O25. -/
theorem stopCloses : Obligations.StopCloses := by
  intro s b takes
  refine ⟨fun unnamed => answers_of_owner rfl takes rfl (forHose_of_none unnamed),
    fun h named => ⟨fun runs => ?_, fun closing => ?_, fun inactive => ?_⟩⟩
  · have run : exec (.stop .panel b) s = ((s.enterClosing h .operatorStop).answer .panel ⟨.ok, []⟩).finish :=
      exec_of_owner rfl takes rfl ((forHose_of_some named).trans (if_pos (SlotState.authorised_of_running runs)))
    have closing := State.enterClosing_slotState .operatorStop runs
    have main := State.mainOpen_of_closing closing
    have slow := State.slowOpen_of_closing closing
    rw [State.enterClosing_eq _ runs] at run main slow
    exact ⟨_, run.trans (State.finish_eq _), rfl, rfl, rfl, (State.outputs_main h).trans main,
      (State.outputs_slow h).trans slow, rfl, fun k other => State.enterClosing_pumps_ne _ other, rfl⟩
  · refine answers_of_owner rfl takes rfl ((forHose_of_some named).trans ?_)
    rw [if_pos (by rw [closing]; rfl), State.enterClosing_idle s .operatorStop (by rw [closing]; rfl)]
    rfl
  · exact answers_of_owner rfl takes rfl ((forHose_of_some named).trans (if_neg (by simp [inactive])))

/-! ### HOLD and RESUME (R34, R35, R37) -/

theorem SlotState.paused_or_delivers {st : SlotState} (runs : st.running = true) : st = .paused ∨ st.delivers = true := by
  cases st <;> simp_all [SlotState.running, SlotState.delivers]

theorem SlotState.ne_paused_of_delivers {st : SlotState} (d : st.delivers = true) : st ≠ .paused := by
  rintro rfl
  cases d

/-- What entry to PAUSED makes of the hose's control (R34). -/
def HoseControl.pausing (k : HoseControl) (due : Timer) : HoseControl :=
  { k with noFlow := none, flowStop := none, flowWindow := [], pause := due }

theorem State.addHold_enterPaused (k : HoldCause) (delivers : (s.slotState h).delivers = true)
    (free : (s.slots.get h).holds.isEmpty = true) :
    s.addHold h k = (s.modSlot h fun x => { x with holds := x.holds.put k true }).enterPaused h := by
  unfold State.addHold
  rw [if_pos (SlotState.authorised_of_running (SlotState.running_of_delivers delivers))]
  simp only [free, delivers, Bool.and_self, if_true]

/-- A cause added to the empty hold set of a slot that delivers pauses it (R34). -/
theorem State.addHold_pauses (k : HoldCause) (delivers : (s.slotState h).delivers = true)
    (free : (s.slots.get h).holds.isEmpty = true) :
    s.addHold h k =
      { s with
        slots := s.slots.set h
          { s.slots.get h with state := .paused, holds := (s.slots.get h).holds.put k true }
        hoseCtl := s.hoseCtl.set h ((s.hoseCtl.get h).pausing (s.timer 300000))
        pumps := (s.addHold h k).pumps
        ports := (s.raise (.hoseState h)).ports } := by
  have active : s.slotState h ≠ .idle := SlotState.ne_idle_of_running (SlotState.running_of_delivers delivers)
  rw [State.addHold_enterPaused k delivers free]
  unfold State.enterPaused
  rw [State.setSlotState_active (by simpa [State.slotState] using active) (by decide)]
  simp only [State.modHoseCtl_slots, State.modSlot_slots, PerHose.get_set_same, PerHose.set_set]
  rfl

/-- Otherwise the cause joins the hold set of an active slot, and that is all (R34). -/
theorem State.addHold_joins (k : HoldCause) (active : (s.slotState h).authorised = true)
    (stays : (s.slots.get h).holds.isEmpty = false ∨ (s.slotState h).delivers = false) :
    s.addHold h k = s.modSlot h fun x => { x with holds := x.holds.put k true } := by
  unfold State.addHold
  rw [if_pos active]
  rcases stays with stays | stays <;> simp [stays]

theorem State.addHold_pumps_ne (k : HoldCause) (other : c ≠ hoseComp h) :
    (s.addHold h k).pumps.get c = s.pumps.get c := by
  unfold State.addHold
  split
  · simp only
    split
    · exact State.setSlotState_pumps_ne _ other
    · rfl
  · rfl

theorem State.removeHold_pumps_ne (k : HoldCause) (other : c ≠ hoseComp h) :
    (s.removeHold h k).pumps.get c = s.pumps.get c := by
  unfold State.removeHold
  split
  · simp only
    split
    · exact (State.compareVolume_pumps_ne other).trans (State.setSlotState_pumps_ne _ other)
    · rfl
  · rfl

theorem HoldSet.isEmpty_iff {x : HoldSet} : x.isEmpty = true ↔ x = HoldSet.empty := by
  obtain ⟨a, b, d⟩ := x
  revert a b d
  decide

/-- What the return to READY makes of the hose's control (R35, R46). -/
def HoseControl.resuming (k : HoseControl) (due : Timer) : HoseControl :=
  { k with pause := none, flowWindow := [], noFlow := due, leakWindow := [], leakArmed := true }

theorem State.compareVolume_short (close : s.atCloseThreshold h = false) (slow : s.atSlowThreshold h = false) :
    s.compareVolume h = s := by simp [State.compareVolume, close, slow]

/-- The last cause leaving a PAUSED slot below both thresholds returns it to READY (R35). -/
theorem State.removeHold_resumes {k : HoldCause} (paused : s.slotState h = .paused)
    (has : (s.slots.get h).holds.has k = true) (last : ((s.slots.get h).holds.put k false).isEmpty = true)
    (close : s.atCloseThreshold h = false) (slow : s.atSlowThreshold h = false) :
    s.removeHold h k =
      { s with
        slots := s.slots.set h { s.slots.get h with state := .ready, holds := (s.slots.get h).holds.put k false }
        hoseCtl := s.hoseCtl.set h ((s.hoseCtl.get h).resuming (s.timer 60000))
        pumps := (s.removeHold h k).pumps
        ports := (s.raise (.hoseState h)).ports } := by
  have ready : s.removeHold h k =
      (((s.modSlot h fun x => { x with holds := x.holds.put k false }).modHoseCtl h fun c =>
        c.resuming (s.timer 60000)).setSlotState h .ready) := by
    unfold State.removeHold
    rw [if_pos has]
    simp only [State.modSlot_slots, PerHose.get_set_same, last, Bool.true_and]
    rw [if_pos (by simpa [State.slotState] using paused)]
    refine State.compareVolume_short ?_ ?_
    · refine Eq.trans ?_ close
      simp [State.atCloseThreshold, State.setSlotState_eq, Slot.authorisedVolume]
      rfl
    · refine Eq.trans ?_ slow
      simp [State.atSlowThreshold, State.setSlotState_eq, Slot.authorisedVolume]
      rfl
  rw [ready, State.setSlotState_active (by simp_all [State.slotState]) (by decide)]
  simp only [State.modHoseCtl_slots, State.modSlot_slots, PerHose.get_set_same, PerHose.set_set]
  rfl

/-- A cause that leaves others in the hold set only leaves it (R35). -/
theorem State.removeHold_leaves {k : HoldCause} (has : (s.slots.get h).holds.has k = true)
    (stays : ((s.slots.get h).holds.put k false).isEmpty = false ∨ s.slotState h ≠ .paused) :
    s.removeHold h k = s.modSlot h fun x => { x with holds := x.holds.put k false } := by
  unfold State.removeHold
  rw [if_pos has]
  simp only [State.modSlot_slots, PerHose.get_set_same]
  rcases stays with stays | stays
  · simp [stays]
  · simp_all [State.slotState]

theorem ownResume_paused {b : Byte} (named : hoseOf b = some h) (paused : s.slotState h = .paused) :
    ownResume b s = (s.removeHold h .operatorHold, ⟨.ok, []⟩) := by
  refine (forHose_of_some named).trans ?_
  rw [if_neg (by rw [paused]; decide), if_pos paused]
  rfl

/-- Settles O24. -/
theorem holdAndResume : Obligations.HoldAndResume := by
  refine ⟨fun s b h takes named => ⟨fun delivers free => ?_, fun paused => ?_, fun still => ?_⟩,
    fun s b h takes named => ⟨fun delivers => ?_, fun paused held slow close => ?_, fun paused held others => ?_,
      fun still => ?_⟩⟩
  · have runs := SlotState.running_of_delivers delivers
    have empty := HoldSet.isEmpty_iff.mpr free
    have run : exec (.hold .panel b) s = ((s.addHold h .operatorHold).answer .panel ⟨.ok, []⟩).finish :=
      exec_of_owner rfl takes rfl ((forHose_of_some named).trans (if_pos runs))
    have demand : ((s.addHold h .operatorHold).pumps.get (hoseComp h)).demand
        = (s.addHold h .operatorHold).demandOf (hoseComp h) := by
      rw [State.addHold_enterPaused _ delivers empty]
      exact State.setSlotState_demand .paused
    rw [State.addHold_pauses _ delivers empty, free] at run demand
    exact ⟨_, run.trans (State.finish_eq _), rfl, rfl, rfl, demand, fun k other => State.addHold_pumps_ne _ other, rfl⟩
  · have run : exec (.hold .panel b) s = ((s.addHold h .operatorHold).answer .panel ⟨.ok, []⟩).finish :=
      exec_of_owner rfl takes rfl ((forHose_of_some named).trans (if_pos (by rw [paused]; rfl)))
    rw [State.addHold_joins _ (by rw [paused]; rfl) (.inr (by rw [paused]; rfl))] at run
    exact ⟨_, run.trans (State.finish_eq _), rfl, rfl, rfl⟩
  · exact answers_of_owner rfl takes rfl ((forHose_of_some named).trans (if_neg (by simp [still])))
  · exact answers_of_owner rfl takes rfl ((forHose_of_some named).trans (if_pos delivers))
  · have run := exec_of_owner (i := .resume .panel b) rfl takes rfl (ownResume_paused named paused)
    rw [State.removeHold_resumes (k := .operatorHold) paused (by rw [held]; rfl) (by rw [held]; rfl) close slow,
      held] at run
    exact ⟨_, run.trans (State.finish_eq _), rfl, rfl, rfl, fun k other => State.removeHold_pumps_ne _ other, rfl⟩
  · have run := exec_of_owner (i := .resume .panel b) rfl takes rfl (ownResume_paused named paused)
    have stays : ((s.slots.get h).holds.put .operatorHold false).isEmpty = false := by
      rcases others with o | o <;> simp [HoldSet.isEmpty, HoldSet.put, o]
    rw [State.removeHold_leaves (k := .operatorHold) held (.inl stays)] at run
    exact ⟨_, run.trans (State.finish_eq _), rfl, rfl, rfl⟩
  · refine answers_of_owner rfl takes rfl ((forHose_of_some named).trans ?_)
    rw [if_neg (fun delivers => by simp [SlotState.running_of_delivers delivers] at still),
      if_neg (fun paused => by simp [paused, SlotState.running] at still)]
    rfl

/-! ### SET_PRESET and ENTER_HOURS (R61, R99, R100) -/

theorem presetOf_eq (code : Byte) (litres : BitVec 16) :
    presetOf code litres = ⟨code.toNat, if code.toNat = 15 then max 1 (min 9999 litres.toNat) else 0⟩ := by
  unfold presetOf
  split <;> simp_all

/-- Settles O23. -/
theorem presetAndHoursEntered : Obligations.PresetAndHoursEntered := by
  refine ⟨fun s b code h litres takes named => ⟨fun beyond => ?_, fun within waits => ?_, fun within acts => ?_⟩,
    fun s b h v takes named => ⟨fun beyond => ?_, fun within acts => ?_, fun within waits => ?_⟩⟩
  · exact answers_of_owner rfl takes rfl ((forHose_of_some named).trans (if_pos beyond))
  · have own : ownSetPreset b code litres s
        = (s.modSlot h fun x => { x with preset := presetOf code litres }, ⟨.ok, []⟩) := by
      refine (forHose_of_some named).trans ?_
      rw [if_neg (Nat.not_lt_of_le within), if_pos waits]
      rfl
    have run := exec_of_owner (i := .setPreset .panel b code litres) rfl takes rfl own
    refine ⟨_, run.trans (State.finish_eq _), ?_, rfl, rfl⟩
    rw [← presetOf_eq]
    rfl
  · refine answers_of_owner rfl takes rfl ((forHose_of_some named).trans ?_)
    rw [if_neg (Nat.not_lt_of_le within), if_neg (by simp [acts])]
    rfl
  · exact answers_of_owner rfl takes rfl ((forHose_of_some named).trans (if_pos beyond))
  · refine answers_of_owner rfl takes rfl ((forHose_of_some named).trans ?_)
    rw [if_neg (show ¬maxHours < v.toNat from Nat.not_lt_of_le within), if_neg (by simp [acts])]
    rfl
  · have own : ownEnterHours b v s = (s.setHours h ⟨v.toNat, .panel⟩, ⟨.ok, []⟩) := by
      refine (forHose_of_some named).trans ?_
      rw [if_neg (show ¬maxHours < v.toNat from Nat.not_lt_of_le within), if_pos waits]
      rfl
    have run := exec_of_owner (i := .enterHours .panel b v) rfl takes rfl own
    refine ⟨_, run.trans (State.finish_eq _), fun elsewhere => ?_, fun asked => ?_⟩
    · rw [show s.setHours h ⟨v.toNat, .panel⟩ = s.modSlot h fun x => { x with hours := some ⟨v.toNat, .panel⟩ } from
        if_neg elsewhere]
      exact ⟨rfl, rfl, rfl⟩
    · rw [show s.setHours h ⟨v.toNat, .panel⟩
        = (s.modSlot h fun x => { x with hours := some ⟨v.toNat, .panel⟩ }).attempt h from if_pos asked]

/-! ### ACK_EXCEPTION (R20, R48) -/

theorem Channel.clearUnattributed_unbound {k : Channel} (unbound : k.bound = false) :
    k.clearUnattributed = { k with unattributed := none, debt := 0, phaseErrors := 0, excessReported := false } := by
  simp [Channel.clearUnattributed, unbound]

theorem Channel.clearUnattributed_bound {k : Channel} (bound : k.bound = true) :
    k.clearUnattributed = { k with unattributed := none } := by simp [Channel.clearUnattributed, bound]

theorem Channel.clearUnattributed_unattributed (k : Channel) : k.clearUnattributed.unattributed = none := by
  unfold Channel.clearUnattributed
  split <;> rfl

/-- The accumulator written out and the pending exception cleared (R46, R48). -/
theorem State.writeOut_eq (s : State) (h : Hose) :
    ∃ latch ports, (s.writeOutAccumulator h).clearPending h =
      { s with
        journal := { s.journal with
          records := s.journal.records ++
            [⟨s.journal.next, !s.clock.valid, .unattributed (s.composeUnattributed h)⟩]
          next := s.journal.next + 1
          highLatch := latch }
        hoseCtl := s.hoseCtl.set h
          { s.hoseCtl.get h with
            pendingException := none, accumulator := Accumulator.zero, leakWindow := [], leakArmed := true }
        chan := s.chan.set h (s.chan.get h).clearUnattributed
        ports := ports } := by
  unfold State.writeOutAccumulator State.clearPending
  refine ⟨(s.appendDirect (.unattributed (s.composeUnattributed h))).journal.highLatch,
    (s.appendDirect (.unattributed (s.composeUnattributed h))).ports, ?_⟩
  conv_lhs => rw [State.appendDirect_eq rfl]
  simp [State.modHoseCtl, State.modChan]

/-- Settles O26. -/
theorem ackExceptionWritesOut : Obligations.AckExceptionWritesOut := by
  intro s b h takes named a
  refine ⟨fun gross net => ?_, fun some full => ?_, fun some room => ?_⟩
  · have run := exec_of_owner (i := .ackException .panel b) rfl takes rfl
      ((forHose_of_some named).trans (if_pos ⟨gross, net⟩))
    exact ⟨_, run.trans (State.finish_eq _), rfl, rfl, rfl⟩
  · refine answers_of_owner rfl takes rfl ((forHose_of_some named).trans ?_)
    rw [if_neg (fun zero => absurd zero.1 some.ne'), if_pos full]
    rfl
  · have own : ownAckException b s = ((s.writeOutAccumulator h).clearPending h, ⟨.ok, []⟩) := by
      refine (forHose_of_some named).trans ?_
      rw [if_neg (fun zero => absurd zero.1 some.ne'), if_neg room.ne']
      rfl
    have run := exec_of_owner (i := .ackException .panel b) rfl takes rfl own
    obtain ⟨latch, ports, e⟩ := s.writeOut_eq h
    rw [e] at run
    refine ⟨_, run.trans (State.finish_eq _), rfl, ?_, fun unbound => ?_, fun bound => ?_, fun k other => ?_, rfl, rfl,
      rfl⟩
    · simp [State.answer, Channel.clearUnattributed_unattributed]
    · simp [State.answer, Channel.clearUnattributed_unbound unbound]
    · simp [State.answer, Channel.clearUnattributed_bound bound]
    · simp [State.answer, other]

/-! ### LOGOFF and RESTART (R67, R193) -/

theorem State.logOff_eq {n : Nat} (on : s.operator = some n) :
    s.logOff =
      { s with
        operator := none, logoffTimer := none
        panelReader := { s.panelReader with lastEvent := some ⟨.operatorOff, some n, s.clock.counter⟩ }
        ports := (s.raise .tagEvent).ports } := by
  unfold State.logOff
  rw [on]
  rfl

theorem State.logOff_none (off : s.operator = none) : s.logOff = s := by
  unfold State.logOff
  rw [off]

/-- Settles O27. -/
theorem operatorLogsOff : Obligations.OperatorLogsOff := by
  refine ⟨fun s n takes on => ?_, fun s takes off => ?_, fun s n due on => ?_⟩
  · have run := exec_of_owner (i := .logoff .panel) (owner := ownLogoff) rfl takes rfl rfl
    rw [State.logOff_eq on] at run
    exact ⟨_, run.trans (State.finish_eq _), rfl, rfl, rfl, rfl, rfl⟩
  · exact answers_of_owner rfl takes rfl (congrArg accepted (State.logOff_none off))
  · have run : exec .logoffTimerExpiry s = ({ s with logoffTimer := none } : State).logOff.finish :=
      congrArg State.finish (if_pos due)
    rw [State.logOff_eq (s := { s with logoffTimer := none }) on] at run
    exact ⟨_, run.trans (State.finish_eq _), rfl, rfl, rfl, rfl, rfl⟩

theorem Roster.entryAt_restarted (r : Roster) (w : WayRef) : r.restarted.entryAt w = none := by
  simp [Roster.entryAt, Roster.restarted, CacheSet.empty, Vector.get_eq_getElem]

/-- After a start RESTARTED is latched on every port, with no mask and an empty buffer (R192, R193). -/
theorem State.started_ports (cause : ResetCause) (figures : PerComp SavedStock) (totals : PerHose SavedTotals)
    (p : Port) :
    let x := (s.started cause figures totals).ports.get p
    x.hasFlag p .restarted = true ∧ x.mask = 0 ∧ x.buffer = none ∧ x.held = 0 := by
  have has : Event.mask p .restarted ≠ 0 := by cases p <;> decide
  refine ⟨State.raise_hasFlag rfl has, ?_⟩
  cases p <;> exact ⟨rfl, rfl, rfl⟩

/-- Settles O28: the state that `State.started` gives, with the journal's own start. -/
theorem restartReinitialises : Obligations.RestartReinitialises := by
  intro s takes
  refine ⟨fun busy => ?_, fun idle => ?_⟩
  · exact answers_of_owner rfl takes rfl (if_neg (by simp [busy]))
  have run : exec (.restart .panel) s = (s.panelRestart.answer .panel ⟨.ok, []⟩).finish :=
    exec_of_owner rfl takes rfl (if_pos idle)
  let figures : PerComp SavedStock := ⟨s.stock.a.saved, s.stock.b.saved⟩
  let totals : PerHose SavedTotals :=
    ⟨⟨s.chan.h1.grossTotalizer, s.chan.h1.netTotalizer⟩, ⟨s.chan.h2.grossTotalizer, s.chan.h2.netTotalizer⟩,
      ⟨s.chan.h3.grossTotalizer, s.chan.h3.netTotalizer⟩⟩
  have masks (p : Port) : (s.panelRestart.ports.get p).mask = 0 :=
    (State.startJournal_mask p).trans (State.started_ports .panelRestart figures totals p).2.1
  have buffers (p : Port) : (s.panelRestart.ports.get p).buffer = none :=
    (State.startJournal_buffer p).trans (State.started_ports .panelRestart figures totals p).2.2.1
  have flags (p : Port) : ((s.panelRestart.answer .panel ⟨.ok, []⟩).ports.get p).hasFlag p .restarted = true :=
    ((FlagsStand.startJournal _).trans (FlagsStand.answer _ .panel _)).hasFlag
      (State.started_ports .panelRestart figures totals p).1
  have e : s.panelRestart = _ := State.startJournal_eq (s.started .panelRestart figures totals)
  rw [e] at run
  refine ⟨_, run.trans (State.finish_eq _), rfl, rfl, rfl, rfl, fun w => Roster.entryAt_restarted s.roster w, rfl,
    fun h => ?_, fun k => ?_, rfl, rfl, rfl, rfl, rfl, rfl, rfl, rfl, rfl, rfl, rfl, rfl,
    rfl, buffers .office, buffers .depot, fun p => ⟨?_, flags p⟩⟩
  · cases h <;> exact ⟨rfl, rfl, rfl, rfl, rfl, rfl, rfl, rfl, rfl, rfl⟩
  · cases k <;> exact ⟨rfl, rfl, rfl, rfl, rfl⟩
  · cases p
    · exact masks .panel
    · exact masks .office
    · exact masks .depot

end Sys2Proof.Machine
end

section
/-! Available stock and its restock test through the operations that follow them, and the authorisation attempt: its
verdict, its refusal and what a successful one latches. -/

namespace Sys2Proof.Machine

open Sys2Proof

variable {s t u w : State} {p : Port} {h k : Hose} {c d : Comp}

/-! ### Available stock (R107, R119) -/

theorem State.availableStock_congr (book : (t.stock.get c).book = (s.stock.get c).book)
    (dead : t.cal.dead.get c = s.cal.dead.get c) (reserved : ∀ h, t.reservedRemainder h = s.reservedRemainder h) :
    t.availableStock c = s.availableStock c := by
  have same : t.reservedRemainder = s.reservedRemainder := funext reserved
  simp only [State.availableStock, State.reservedStock, book, dead, same]

/-- A slot that stays active keeps its reserved remainder. -/
theorem State.reservedRemainder_congr (chan : t.chan = s.chan)
    (active : (t.slotState h).authorised = (s.slotState h).authorised)
    (authorised : (t.slots.get h).authorised = (s.slots.get h).authorised) :
    t.reservedRemainder h = s.reservedRemainder h := by
  simp only [State.reservedRemainder, Slot.authorisedVolume, chan, active, authorised]

theorem State.setSlotState_reserved {st : SlotState} (active : st.authorised = (s.slotState h).authorised) (k : Hose) :
    (s.setSlotState h st).reservedRemainder k = s.reservedRemainder k := by
  rw [State.setSlotState_eq]
  refine State.reservedRemainder_congr rfl ?_ ?_
  · by_cases same : k = h
    · subst same; simpa [State.slotState] using active
    · simp [State.slotState, same]
  · by_cases same : k = h
    · subst same; simp
    · simp [same]

theorem State.enterClosing_reserved (h : Hose) (cause : EndCause) (k : Hose) :
    (s.enterClosing h cause).reservedRemainder k = s.reservedRemainder k := by
  unfold State.enterClosing
  split
  · next runs =>
    rw [State.setSlotState_reserved (by
      simp only [State.slotState, State.modTracking_slots, State.modHoseCtl_slots, State.modSlot_slots,
        PerHose.get_set_same]
      exact (SlotState.authorised_of_running runs).symm)]
    refine State.reservedRemainder_congr rfl ?_ ?_
    · by_cases same : k = h
      · subst same; simp [State.slotState]
      · simp [State.slotState, same]
    · by_cases same : k = h
      · subst same; simp
      · simp [same]
  · rfl

theorem State.enterSlowing_reserved (runs : (s.slotState h).running = true) (k : Hose) :
    (s.enterSlowing h).reservedRemainder k = s.reservedRemainder k := by
  unfold State.enterSlowing
  refine (State.setSlotState_reserved ?_ k).trans rfl
  exact (SlotState.authorised_of_running runs).symm

theorem State.compareVolume_reserved (h k : Hose) : (s.compareVolume h).reservedRemainder k = s.reservedRemainder k := by
  unfold State.compareVolume
  split
  · exact State.enterClosing_reserved h _ k
  · split
    · next slows =>
      refine State.enterSlowing_reserved ?_ k
      simp only [Bool.and_eq_true, Bool.or_eq_true, beq_iff_eq] at slows
      rcases slows.1 with e | e <;> rw [e] <;> rfl
    · rfl

/-! ### Frames -/

theorem State.enterClosing_frame_eq (h : Hose) (cause : EndCause) :
    s.enterClosing h cause =
      { s with
        slots := (s.enterClosing h cause).slots, hoseCtl := (s.enterClosing h cause).hoseCtl
        tracking := (s.enterClosing h cause).tracking, pumps := (s.enterClosing h cause).pumps
        ports := (s.enterClosing h cause).ports } := by
  cases runs : (s.slotState h).running with
  | true => rw [State.enterClosing_eq cause runs]
  | false => rw [State.enterClosing_idle s cause runs]

/-- The comparison of a slot writes slots, hose control, tracking, pumps and ports (R28). -/
theorem State.compareVolume_frame (h : Hose) :
    s.compareVolume h =
      { s with
        slots := (s.compareVolume h).slots, hoseCtl := (s.compareVolume h).hoseCtl
        tracking := (s.compareVolume h).tracking, pumps := (s.compareVolume h).pumps
        ports := (s.compareVolume h).ports } := by
  unfold State.compareVolume
  split
  · exact State.enterClosing_frame_eq h _
  · split
    · next slows =>
      simp only [Bool.and_eq_true, Bool.or_eq_true, beq_iff_eq] at slows
      rw [State.enterSlowing_eq (by rcases slows.1 with e | e <;> rw [e] <;> decide)]
    · rfl

theorem State.restockTest_frame (c : Comp) :
    s.restockTest c = { s with stock := (s.restockTest c).stock, ports := (s.restockTest c).ports } := by
  unfold State.restockTest
  split <;> rfl

theorem State.restockIfFell_frame (c : Comp) (before : Nat) :
    s.restockIfFell c before =
      { s with stock := (s.restockIfFell c before).stock, ports := (s.restockIfFell c before).ports } := by
  unfold State.restockIfFell
  split
  · exact s.restockTest_frame c
  · rfl

theorem State.restockTest_stock_ne (other : d ≠ c) : (s.restockTest c).stock.get d = s.stock.get d := by
  unfold State.restockTest
  split
  · simp [other]
  · rfl

theorem State.restockIfFell_stock_ne {before : Nat} (other : d ≠ c) :
    (s.restockIfFell c before).stock.get d = s.stock.get d := by
  unfold State.restockIfFell
  split
  · exact State.restockTest_stock_ne other
  · rfl

theorem FlagsStand.restockTest (s : State) (c : Comp) : FlagsStand s (s.restockTest c) := by
  unfold State.restockTest
  exact FlagsStand.ite (fun _ => FlagsStand.raise _ .restockNeeded) fun _ => FlagsStand.refl s

theorem FlagsStand.restockIfFell (s : State) (c : Comp) (before : Nat) : FlagsStand s (s.restockIfFell c before) := by
  unfold State.restockIfFell
  exact FlagsStand.ite (fun _ => FlagsStand.restockTest s c) fun _ => FlagsStand.refl s

/-! ### The restock test (R128) -/

/-- The figures of a compartment that the restock test leaves. -/
theorem State.restockTest_figures (c : Comp) :
    ((s.restockTest c).stock.get c).book = (s.stock.get c).book
      ∧ ((s.restockTest c).stock.get c).credited = (s.stock.get c).credited
      ∧ ((s.restockTest c).stock.get c).adjusted = (s.stock.get c).adjusted
      ∧ ((s.restockTest c).stock.get c).dispensed = (s.stock.get c).dispensed
      ∧ ((s.restockTest c).stock.get c).cut = (s.stock.get c).cut := by
  unfold State.restockTest
  split <;> simp

theorem State.restockIfFell_figures (c : Comp) (before : Nat) :
    ((s.restockIfFell c before).stock.get c).book = (s.stock.get c).book
      ∧ ((s.restockIfFell c before).stock.get c).credited = (s.stock.get c).credited
      ∧ ((s.restockIfFell c before).stock.get c).adjusted = (s.stock.get c).adjusted
      ∧ ((s.restockIfFell c before).stock.get c).dispensed = (s.stock.get c).dispensed
      ∧ ((s.restockIfFell c before).stock.get c).cut = (s.stock.get c).cut := by
  unfold State.restockIfFell
  split
  · exact s.restockTest_figures c
  · exact ⟨rfl, rfl, rfl, rfl, rfl⟩

/-- What the restock test of a compartment reads, and what it leaves of it, are the same in two states. -/
structure RestockReads (c : Comp) (s t : State) : Prop where
  armed : (t.stock.get c).armed = (s.stock.get c).armed
  notice : (t.stock.get c).lastNotice = (s.stock.get c).lastNotice
  depot : t.depot = s.depot
  clock : t.clock = s.clock
  supply : t.supply = s.supply

/-- Nothing after `s` touches a compartment's stock, what its availability is made of, or takes a flag down. -/
structure RestockStays (c : Comp) (s t : State) : Prop where
  stock : t.stock.get c = s.stock.get c
  cal : t.cal = s.cal
  reserved : ∀ h, t.reservedRemainder h = s.reservedRemainder h
  flags : FlagsStand s t

theorem RestockStays.refl (c : Comp) (s : State) : RestockStays c s s := ⟨rfl, rfl, fun _ => rfl, FlagsStand.refl s⟩

theorem RestockStays.trans (f : RestockStays c s t) (g : RestockStays c t u) : RestockStays c s u :=
  ⟨g.stock.trans f.stock, g.cal.trans f.cal, fun h => (g.reserved h).trans (f.reserved h), f.flags.trans g.flags⟩

theorem RestockStays.available (f : RestockStays c s t) : t.availableStock c = s.availableStock c :=
  State.availableStock_congr (by rw [f.stock]) (by rw [f.cal]) f.reserved

theorem RestockStays.answer (c : Comp) (s : State) (p : Port) (r : Response) (o : Outputs) :
    RestockStays c s { s.answer p r with out := o } :=
  ⟨rfl, rfl, fun _ => rfl, FlagsStand.answer s p r⟩

theorem RestockStays.driven (c : Comp) (s : State) (o : Outputs) : RestockStays c s { s with out := o } :=
  ⟨rfl, rfl, fun _ => rfl, FlagsStand.refl s⟩

theorem RestockStays.compareVolume (c : Comp) (s : State) (h : Hose) : RestockStays c s (s.compareVolume h) :=
  ⟨by rw [State.compareVolume_frame], by rw [State.compareVolume_frame], State.compareVolume_reserved h,
    FlagsStand.compareVolume s h⟩

theorem RestockStays.enterClosing (c : Comp) (s : State) (h : Hose) (cause : EndCause) :
    RestockStays c s (s.enterClosing h cause) :=
  ⟨by rw [State.enterClosing_frame_eq], by rw [State.enterClosing_frame_eq], State.enterClosing_reserved h cause,
    FlagsStand.enterClosing s h cause⟩

theorem State.availableStock_restockTest (c : Comp) : (s.restockTest c).availableStock c = s.availableStock c :=
  State.availableStock_congr (s.restockTest_figures c).1 (by rw [State.restockTest_frame])
    fun h => by rw [State.restockTest_frame]; rfl

theorem RestockStays.suggested (f : RestockStays c s t) : t.suggestedVolume c = s.suggestedVolume c := by
  simp only [State.suggestedVolume, f.stock, f.cal]

theorem State.suggestedVolume_restockTest (c : Comp) : (s.restockTest c).suggestedVolume c = s.suggestedVolume c := by
  simp only [State.suggestedVolume, (s.restockTest_figures c).1]
  rw [State.restockTest_frame]

theorem State.restockTest_acts (below : (s.stock.get c).armed = true ∧ s.availableStock c < s.depot.reorder.get c) :
    s.restockTest c =
      (s.modStock c fun x =>
        { x with armed := false, lastNotice := some ⟨s.suggestedVolume c, s.clock.counter⟩ }).raise
        .restockNeeded := if_pos (by simpa using below)

theorem State.restockTest_rests (above : ¬((s.stock.get c).armed = true ∧ s.availableStock c < s.depot.reorder.get c)) :
    s.restockTest c = s := if_neg (by simpa using above)

/-- The restock test is made of the state `w` that follows `s`, and nothing after it touches what it wrote. -/
theorem restockTested_of (reads : RestockReads c s w) (after : RestockStays c (w.restockTest c) t) :
    restockTested c s t := by
  obtain ⟨armed, notice, depot, clock, supply⟩ := reads
  have available := after.available.trans (w.availableStock_restockTest c)
  have suggested := after.suggested.trans (w.suggestedVolume_restockTest c)
  obtain ⟨stock, -, -, flags⟩ := after
  unfold restockTested restockStands
  rw [available, suggested, stock, ← armed, ← depot, ← notice]
  by_cases below : (w.stock.get c).armed = true ∧ w.availableStock c < w.depot.reorder.get c
  · rw [State.restockTest_acts below] at flags
    rw [if_pos below, State.restockTest_acts below]
    have raised (p : Port) (has : Event.mask p .restockNeeded ≠ 0) (normal : s.supply = .normal) :
        (t.ports.get p).hasFlag p .restockNeeded = true :=
      flags.hasFlag (State.raise_hasFlag (supply.trans normal) has)
    exact ⟨by simp, by simp [clock], fun normal => ⟨raised .office (by decide) normal, raised .depot (by decide) normal⟩⟩
  · rw [if_neg below, State.restockTest_rests below]
    exact ⟨rfl, rfl⟩

/-- The restock test is made of `w` where its available stock lies below that of `s` (R128). -/
theorem restockFollows_of (reads : RestockReads c s w)
    (after : RestockStays c (w.restockIfFell c (s.availableStock c)) t) : restockFollows c s t := by
  unfold State.restockIfFell at after
  unfold restockFollows
  by_cases fell : w.availableStock c < s.availableStock c
  · rw [if_pos fell] at after
    rw [if_pos (by rwa [after.available, State.availableStock_restockTest])]
    exact restockTested_of reads after
  · rw [if_neg fell] at after
    rw [if_neg (by rwa [after.available])]
    exact ⟨(congrArg Stock.armed after.stock).trans reads.armed, (congrArg Stock.lastNotice after.stock).trans reads.notice⟩

/-! ### Verdicts and refusals (R101 to R104) -/

theorem leastCandidate_none {l : List (Option Nat × Binding)} (none : leastCandidate l = none) :
    ∀ k ∈ l, k.1 = Option.none := by
  induction l with
  | nil => intro k mem; cases mem
  | cons x rest ih =>
    obtain ⟨v, b⟩ := x
    cases v with
    | none => exact List.forall_mem_cons.mpr ⟨rfl, ih none⟩
    | some v =>
      simp only [leastCandidate] at none
      split at none
      · cases none
      · split at none <;> cases none

/-- The least candidate is the first of the least present ones (R102). -/
theorem leastCandidate_some {l : List (Option Nat × Binding)} {v : AuthorisedVolume} (least : leastCandidate l = some v) :
    ∃ before after, l = before ++ (some v.volume, v.binding) :: after
      ∧ (∀ k ∈ before, ∀ n, k.1 = some n → v.volume < n) ∧ ∀ k ∈ after, ∀ n, k.1 = some n → v.volume ≤ n := by
  induction l generalizing v with
  | nil => cases least
  | cons x rest ih =>
    obtain ⟨m, b⟩ := x
    cases m with
    | none =>
      obtain ⟨before, after, e, first, later⟩ := ih least
      exact ⟨(none, b) :: before, after, by rw [e]; rfl, List.forall_mem_cons.mpr ⟨nofun, first⟩, later⟩
    | some m =>
      simp only [leastCandidate] at least
      split at least
      · next absent =>
        cases least
        exact ⟨[], rest, rfl, nofun, fun k mem n some_n => nomatch (leastCandidate_none absent k mem).symm.trans some_n⟩
      · next best found =>
        obtain ⟨before, after, e, first, later⟩ := ih found
        split at least
        · next le =>
          cases least
          refine ⟨[], rest, rfl, nofun, fun k mem n some_n => ?_⟩
          rw [e, List.mem_append, List.mem_cons] at mem
          rcases mem with mem | rfl | mem
          · exact le.trans (first k mem n some_n).le
          · cases some_n; exact le
          · exact le.trans (later k mem n some_n)
        · next gt =>
          cases least
          refine ⟨(some m, b) :: before, after, by rw [e]; rfl, List.forall_mem_cons.mpr ⟨?_, first⟩, later⟩
          intro n some_n
          cases some_n
          exact Nat.lt_of_not_le gt

theorem State.verdict_ok_least {e : Entry} {v : AuthorisedVolume} (ok : s.verdict h e = .ok v) :
    leastCandidate (s.candidates h e) = some v ∧ 100 ≤ v.volume := by
  unfold State.verdict at ok
  split at ok
  · cases ok
  · split at ok
    · cases ok
    · next best found =>
      split at ok
      · cases ok
      · next enough =>
        cases ok
        exact ⟨found, Nat.le_of_not_lt enough⟩

/-- Settles O20: the candidates by induction on their list. -/
theorem verdictIsLeastCandidate : Obligations.VerdictIsLeastCandidate := by
  intro s h e v ok
  obtain ⟨least, enough⟩ := State.verdict_ok_least ok
  exact ⟨State.verdict_ok_checks ok, enough, leastCandidate_some least⟩

theorem State.attempt_refused {e : Entry} {r : RefusalReason} (entry : s.slotEntry h = some e)
    (refused : s.verdict h e = .error r) :
    s.attempt h = (s.modSlot h fun x => { x with flags := s.attemptFlags h e }).refuse h r := by
  unfold State.attempt
  simp only [entry, refused]

theorem State.attempt_authorised {e : Entry} {v : AuthorisedVolume} (entry : s.slotEntry h = some e)
    (ok : s.verdict h e = .ok v) :
    s.attempt h = (s.modSlot h fun x => { x with flags := s.attemptFlags h e }).authorise h e v := by
  unfold State.attempt
  simp only [entry, ok]

/-- The pin released touches the cache alone (R72). -/
theorem Roster.unpin_frame (r : Roster) (w : WayRef) : r.unpin w = { r with cache := (r.unpin w).cache } := by
  unfold Roster.unpin
  split
  · rfl
  · split <;> rfl

theorem State.releaseEntry_frame (w : Option WayRef) :
    s.releaseEntry w = { s with roster := { s.roster with cache := (s.releaseEntry w).roster.cache } } := by
  cases w with
  | none => rfl
  | some w => exact congrArg (fun r => ({ s with roster := r } : State)) (s.roster.unpin_frame w)

/-- Settles O21. -/
theorem refusalReturnsToIdent : Obligations.RefusalReturnsToIdent := by
  intro s h e r entry refused
  rw [State.attempt_refused entry refused]
  unfold State.refuse
  rw [State.setSlotState_eq, State.releaseEntry_frame]
  refine ⟨?_, rfl, rfl, rfl⟩
  simp [Slot.refused]
  rfl

end Sys2Proof.Machine
end

section
/-! What a successful authorisation attempt latches (R105), and IDENTIFY of a machine that is not cached (R97). -/

namespace Sys2Proof.Machine

open Sys2Proof

variable {s t u w : State} {p : Port} {h k : Hose} {c d : Comp}

/-! ### The flags of the attempt (R62, R106) -/

theorem State.attemptFlags_eq (s : State) (h : Hose) (e : Entry) :
    s.attemptFlags h e =
      { SlotFlags.none with
        provisional := e.origin == .provisional
        hoursImplausible :=
          match (s.slots.get h).hours, s.roster.hoursReference e.body with
          | some x, some r => decide (x.hours < r ∨ r + e.body.maxJump < x.hours)
          | _, _ => false
        allowanceUntracked := !(s.roster.usageOf e.body.machine).isSome && decide (128 ≤ s.roster.usage.length)
        calMode := s.switches.calEnable
        clockInvalid := !s.clock.valid } := by
  unfold State.attemptFlags implausible
  cases (s.slots.get h).hours <;> cases s.roster.hoursReference e.body <;>
    simp [Roster.usageFull, Bool.decide_or]

/-! ### The day usage entry (R86) -/

theorem State.useUsage_roster (s : State) (m : Nat) :
    (s.useUsage m).roster =
      if (s.roster.usageOf m).isSome = true ∨ 128 ≤ s.roster.usage.length then s.roster
      else { s.roster with usage := insertUsage ⟨m, 0, 0, none⟩ s.roster.usage } := by
  unfold State.useUsage Roster.usageFull
  by_cases listed : (s.roster.usageOf m).isSome = true
  · rw [if_pos listed, if_pos (.inl listed)]
  · by_cases full : 128 ≤ s.roster.usage.length
    · rw [if_neg listed, if_pos (by simpa using full), if_pos (.inr full)]
      rfl
    · rw [if_neg listed, if_neg (by simpa using full), if_neg (by simp [listed, full])]
      rfl

theorem FlagsStand.useUsage (s : State) (m : Nat) : FlagsStand s (s.useUsage m) := by
  unfold State.useUsage
  exact FlagsStand.ite (fun _ => FlagsStand.refl s) fun _ =>
    FlagsStand.ite (fun _ => FlagsStand.raise s .usageFull) fun _ => FlagsStand.refl s

theorem State.useUsage_flag {m : Nat} (normal : s.supply = .normal) (listed : (s.roster.usageOf m).isSome = false)
    (full : 128 ≤ s.roster.usage.length) :
    ((s.useUsage m).ports.get .office).hasFlag .office .usageFull = true := by
  unfold State.useUsage
  rw [if_neg (by simp [listed]), if_pos (by simpa [Roster.usageFull] using full)]
  exact State.raise_hasFlag normal (by decide)

/-! ### A successful attempt (R1, R105) -/

/-- What a successful attempt latches of `s` at a hose, in the state `t` that holds its reserved journal place. -/
def State.latching (s : State) (h : Hose) (e : Entry) (v : AuthorisedVolume) (t : State) : State :=
  let t := t.modSlot h fun _ => s.authorisedSlot h e v
  let t := t.modChan h fun c => c.bind (s.cal.kq.get h)
  let t := t.modHoseCtl h fun c => c.startTransaction s.depot (s.timer 60000)
  t.modTracking h fun _ =>
    { running := (s.slots.get h).method == some .tag, misses := 0, restoreWindow := none }

/-- The state of a successful attempt before its restock test and its first volume comparison. -/
def State.readied (s : State) (h : Hose) (e : Entry) (v : AuthorisedVolume) : State :=
  (s.latching h e v ((s.reserveSlot (.hose h)).useUsage e.body.machine)).setSlotState h .ready

theorem State.authorise_readied (s : State) (h : Hose) (e : Entry) (v : AuthorisedVolume) :
    s.authorise h e v =
      ((s.readied h e v).restockIfFell (hoseComp h) (s.availableStock (hoseComp h))).compareVolume h := by
  unfold State.authorise State.readied State.latching
  rfl

theorem State.readied_eq (s : State) (h : Hose) (e : Entry) (v : AuthorisedVolume) :
    s.readied h e v =
      { s with
        slots := s.slots.set h { s.authorisedSlot h e v with state := .ready }
        journal := { s.journal with
          register := s.journal.register.put (.hose h) (some !s.clock.valid)
          highLatch := (s.reserveSlot (.hose h)).journal.highLatch }
        chan := s.chan.set h ((s.chan.get h).bind (s.cal.kq.get h))
        hoseCtl := s.hoseCtl.set h ((s.hoseCtl.get h).startTransaction s.depot (s.timer 60000))
        tracking := s.tracking.set h
          { running := (s.slots.get h).method == some .tag, misses := 0, restoreWindow := none }
        roster := (s.useUsage e.body.machine).roster
        pumps := (s.readied h e v).pumps
        logoffTimer := (s.readied h e v).logoffTimer
        ports := (s.readied h e v).ports } := by
  have roster : ((s.reserveSlot (.hose h)).useUsage e.body.machine).roster = (s.useUsage e.body.machine).roster := by
    rw [State.useUsage_roster, State.useUsage_roster, State.reserveSlot_eq]
  unfold State.readied
  rw [State.setSlotState_eq, State.useUsage_frame, roster, State.reserveSlot_eq]
  simp [State.latching, State.modTracking, State.modHoseCtl, State.modChan, State.modSlot]

theorem FlagsStand.latching (s t : State) (h : Hose) (e : Entry) (v : AuthorisedVolume) :
    FlagsStand t (s.latching h e v t) := FlagsStand.of_ports rfl

theorem FlagsStand.readied_usage (s : State) (h : Hose) (e : Entry) (v : AuthorisedVolume) :
    FlagsStand ((s.reserveSlot (.hose h)).useUsage e.body.machine) (s.readied h e v) :=
  (FlagsStand.latching s _ h e v).trans (FlagsStand.setSlotState _ h .ready)

theorem FlagsStand.readied (s : State) (h : Hose) (e : Entry) (v : AuthorisedVolume) :
    FlagsStand (s.reserveSlot (.hose h)) (s.readied h e v) :=
  (FlagsStand.useUsage _ _).trans (FlagsStand.readied_usage s h e v)

theorem RestockReads.readied (s : State) (h : Hose) (e : Entry) (v : AuthorisedVolume) (c : Comp) :
    RestockReads c s (s.readied h e v) := by
  rw [State.readied_eq]
  exact ⟨rfl, rfl, rfl, rfl, rfl⟩

/-- The first comparison of a slot just READY: SLOWING where the volume lies within the slow band (R28). -/
theorem State.compareVolume_ready (ready : s.slotState h = .ready) (zero : (s.chan.get h).txn.net = 0)
    (far : (s.hoseCtl.get h).closeAhead < (s.slots.get h).authorisedVolume) :
    s.compareVolume h =
      if (s.slots.get h).authorisedVolume ≤ (s.hoseCtl.get h).slowBand then s.enterSlowing h else s := by
  unfold State.compareVolume
  rw [if_neg (by simp [State.atCloseThreshold, zero, far])]
  refine if_congr ?_ rfl rfl
  simp [State.atSlowThreshold, zero, ready]

/-- A successful attempt, with its first comparison worked out (R28, R105). -/
theorem State.authorise_eq {e : Entry} {v : AuthorisedVolume} (far : s.depot.closeAhead < v.volume) :
    s.authorise h e v =
      if v.volume ≤ s.depot.slowBand then
        ((s.readied h e v).restockIfFell (hoseComp h) (s.availableStock (hoseComp h))).enterSlowing h
      else (s.readied h e v).restockIfFell (hoseComp h) (s.availableStock (hoseComp h)) := by
  rw [State.authorise_readied, State.restockIfFell_frame, State.readied_eq, State.compareVolume_ready]
  · simp [Slot.authorisedVolume, State.authorisedSlot, HoseControl.startTransaction]
  · simp [State.slotState]
  · simp [Channel.bind, TxnContext.fresh]
  · simpa [Slot.authorisedVolume, State.authorisedSlot, HoseControl.startTransaction] using far

/-- The attempt's flags do not touch the stock that is available. -/
theorem RestockStays.flags_set (c : Comp) (s : State) (h : Hose) (flags : SlotFlags) :
    RestockStays c s (s.modSlot h fun x => { x with flags := flags }) := by
  refine ⟨rfl, rfl, fun k => State.reservedRemainder_congr rfl ?_ ?_, FlagsStand.refl s⟩
  all_goals by_cases same : k = h
  all_goals simp [State.slotState, same]

/-- The slot, hose control, stock and frame that a successful attempt leaves (R105), and what it does not touch of
the stock its restock test read. -/
theorem State.authorise_latched {e : Entry} {v : AuthorisedVolume} (far : s.depot.closeAhead < v.volume) :
    ((s.authorise h e v).hoseCtl.get h).noFlow = some (s.now + 60000)
      ∧ s.authorise h e v =
        { (s.readied h e v).restockIfFell (hoseComp h) (s.availableStock (hoseComp h)) with
          slots := s.slots.set h
            { s.authorisedSlot h e v with state := if v.volume ≤ s.depot.slowBand then .slowing else .ready }
          hoseCtl := (s.authorise h e v).hoseCtl, pumps := (s.authorise h e v).pumps
          ports := (s.authorise h e v).ports }
      ∧ RestockStays (hoseComp h) ((s.readied h e v).restockIfFell (hoseComp h) (s.availableStock (hoseComp h)))
          (s.authorise h e v) := by
  have slots : ((s.readied h e v).restockIfFell (hoseComp h) (s.availableStock (hoseComp h))).slots =
      s.slots.set h { s.authorisedSlot h e v with state := .ready } := by
    rw [State.restockIfFell_frame, State.readied_eq]
  have hoseCtl : ((s.readied h e v).restockIfFell (hoseComp h) (s.availableStock (hoseComp h))).hoseCtl =
      s.hoseCtl.set h ((s.hoseCtl.get h).startTransaction s.depot (s.timer 60000)) := by
    rw [State.restockIfFell_frame, State.readied_eq]
  rw [State.authorise_eq far]
  generalize (s.readied h e v).restockIfFell (hoseComp h) (s.availableStock (hoseComp h)) = r at *
  have ready : r.slotState h = .ready := by rw [State.slotState, slots, PerHose.get_set_same]
  by_cases slow : v.volume ≤ s.depot.slowBand
  · have slowed := State.enterSlowing_eq (s := r) (h := h) (ready ▸ nofun)
    rw [if_pos slow, if_pos slow]
    refine ⟨?_, ?_, ?_, ?_, State.enterSlowing_reserved (ready ▸ rfl), FlagsStand.setSlotState _ h _⟩
    case refine_2 => rw [slowed, slots, PerHose.set_set, PerHose.get_set_same]
    all_goals rw [slowed]
    rw [hoseCtl]
    simp [HoseControl.startTransaction, State.timer]
  · rw [if_neg slow, if_neg slow, ← slots, hoseCtl, PerHose.get_set_same, ← hoseCtl]
    exact ⟨rfl, rfl, RestockStays.refl _ r⟩

theorem State.authorisedSlot_flags (s : State) (h : Hose) (e : Entry) (v : AuthorisedVolume) (flags : SlotFlags) :
    (s.modSlot h fun x => { x with flags := flags }).authorisedSlot h e v =
      { s.authorisedSlot h e v with flags := flags } := by
  simp [State.authorisedSlot]

/-- The states after a successful attempt, its reservation first, do not touch what was reserved. -/
theorem highMarkFollows_of_reserve {k : Holder} (journal : t.journal = (s.reserveSlot k).journal)
    (flags : FlagsStand (s.reserveSlot k) t) : highMarkFollows s t :=
  highMarkFollows_of_noteFree (u := { s with
    journal := { s.journal with register := s.journal.register.put k (some !s.clock.valid) } }) rfl rfl journal flags

/-- Settles O22: the latched values stand through the restock test and the first comparison. -/
theorem authorisationLatches : Obligations.AuthorisationLatches := by
  intro s h e v entry ok closeAhead t m listed st reference flags
  have far : s.depot.closeAhead < v.volume := by have := (State.verdict_ok_least ok).2; omega
  let a := s.modSlot h fun x => { x with flags := s.attemptFlags h e }
  have flagged : flags = s.attemptFlags h e := by
    rw [State.attemptFlags_eq]
    rfl
  have run : t = a.authorise h e v := State.attempt_authorised entry ok
  have available : a.availableStock (hoseComp h) = s.availableStock (hoseComp h) :=
    (RestockStays.flags_set _ s h _).available
  obtain ⟨noFlow, authorised, stays⟩ := State.authorise_latched (s := a) (h := h) (e := e) far
  rw [available] at authorised stays
  have ordered : FlagsStand (a.reserveSlot (.hose h)) t :=
    ((FlagsStand.readied a h e v).trans (FlagsStand.restockIfFell _ _ _)).trans (run ▸ stays.flags)
  have used : FlagsStand ((a.reserveSlot (.hose h)).useUsage m) t :=
    ((FlagsStand.readied_usage a h e v).trans (FlagsStand.restockIfFell _ _ _)).trans (run ▸ stays.flags)
  have restocked : restockFollows (hoseComp h) s t := by
    obtain ⟨armed, notice, depot, clock, supply⟩ := RestockReads.readied a h e v (hoseComp h)
    exact restockFollows_of ⟨armed, notice, depot, clock, supply⟩ (run ▸ stays)
  have stock (c) (other : c ≠ hoseComp h) : t.stock.get c = s.stock.get c := by
    rw [run, authorised]
    refine (State.restockIfFell_stock_ne other).trans ?_
    rw [State.readied_eq]
    rfl
  have full (unlisted : listed = false) (many : 128 ≤ s.roster.usage.length) (normal : s.supply = .normal) :
      (t.ports.get .office).hasFlag .office .usageFull = true := by
    refine used.hasFlag (State.useUsage_flag ?_ ?_ ?_)
    all_goals rw [State.reserveSlot_eq]
    exacts [normal, unlisted, many]
  rw [State.restockIfFell_frame, State.readied_eq, State.authorisedSlot_flags] at authorised
  rw [flagged]
  refine ⟨?_, ?_, (highMarkFollows_of_reserve (s := a) (k := .hose h) ?_ ordered :), ?_, full, restocked, ?_, ?_, ?_, ?_, ?_, ?_,
    stock, ?_⟩
  all_goals rw [run]
  case refine_9 => exact noFlow
  all_goals rw [authorised]
  case refine_1 => simp [a, st, State.authorisedSlot]; rfl
  case refine_3 => exact (congrArg State.journal (State.reserveSlot_eq (s := a) (.hose h))).symm
  case refine_4 => exact State.useUsage_roster a m
  case refine_5 => simp [Channel.bind]
  case refine_6 => simp [Channel.bind, TxnContext.fresh]; rfl
  case refine_7 => simp [Channel.bind]
  case refine_8 => simp [Channel.bind]
  case refine_10 => simp [a]
  all_goals rfl

/-! ### IDENTIFY (R59, R97) -/

/-- A request is made where none is made for the machine and there is room (R80). -/
theorem State.requestMachine_new {m : Nat} (unasked : ∀ q ∈ s.roster.requests, q.machine ≠ m)
    (room : s.roster.requests.length < 3) :
    s.requestMachine h m =
      (s.modRoster fun r =>
        { r with requests := r.requests ++ [⟨m, (PerHose.all false).set h true, s.timer 8000⟩] }).raise
        .rosterRequest := by
  unfold State.requestMachine
  rw [if_neg (by simpa using unasked)]
  simp only [State.modRoster, if_neg (Nat.not_le_of_lt room)]

/-- Demand reads nothing of the slot itself but the state it enters (R43). -/
theorem State.recounted_modSlot (f : Slot → Slot) (st : SlotState) :
    (s.modSlot h f).recounted h st = s.recounted h st := by cases h <;> rfl

/-- A machine that is not cached is looked for on a request (R97). -/
theorem State.lookup_requested {m : Nat} (active : s.slotState h ≠ .idle) (miss : s.roster.findWay m = none)
    (unasked : ∀ q ∈ s.roster.requests, q.machine ≠ m) (room : s.roster.requests.length < 3) :
    s.lookup h m =
      { s with
        slots := s.slots.set h { s.slots.get h with state := .lookup, identTimer := some (s.now + 120000) }
        roster := { s.roster with
          requests := s.roster.requests ++ [⟨m, (PerHose.all false).set h true, some (s.now + 8000)⟩] }
        pumps := s.recounted h .lookup
        ports := ((s.raise (.hoseState h)).raise .rosterRequest).ports } := by
  unfold State.lookup
  rw [miss, State.setSlotState_active (by simpa [State.slotState] using active) (by decide), State.recounted_modSlot]
  simp only []
  rw [State.requestMachine_new (by exact unasked) (by exact room)]
  simp [State.modSlot, State.modRoster]
  rfl

/-- A typed number of a machine that is not cached (R59, R97). -/
theorem State.identify_typed {m : Nat} (ident : s.slotState h = .ident) (miss : s.roster.findWay m = none)
    (unasked : ∀ q ∈ s.roster.requests, q.machine ≠ m) (room : s.roster.requests.length < 3) :
    s.identify h ⟨m, .typed, none, none, none⟩ =
      { s with
        slots := s.slots.set h
          { s.slots.get h with
            state := .lookup, machine := some m, method := some .typed, inlet := none, tank := none
            identTimer := some (s.now + 120000) }
        roster := { s.roster with
          requests := s.roster.requests ++ [⟨m, (PerHose.all false).set h true, some (s.now + 8000)⟩] }
        pumps := s.recounted h .lookup
        ports := ((s.raise (.hoseState h)).raise .rosterRequest).ports } := by
  have awake : (s.slots.get h).state ≠ .idle := by rw [show (s.slots.get h).state = .ident from ident]; decide
  unfold State.identify
  rw [State.lookup_requested (by simpa [State.slotState] using awake) (by exact miss) (by exact unasked)
    (by exact room), State.recounted_modSlot]
  simp [State.modSlot]
  rfl

/-- Settles O19. -/
theorem identifyTypedAndTurnedAway : Obligations.IdentifyTypedAndTurnedAway := by
  refine ⟨fun s b h n takes named ident unclaimed range miss unasked room => ?_,
    fun s b m h n takes named => ⟨fun turned => ?_, fun ident unclaimed k code empty => ?_⟩⟩
  · have own : ownIdentify b 1 n s = accepted (s.identify h ⟨n.toNat, .typed, none, none, none⟩) := by
      refine (forHose_of_some named).trans ?_
      rw [if_neg (by simp [ident, unclaimed])]
      simp [State.manualIdentity, range, manualIdentification]
    have run := exec_of_owner (i := .identify .panel b 1 n) rfl takes rfl own
    rw [State.identify_typed ident miss unasked room] at run
    refine ⟨_, run.trans (State.finish_eq _), rfl, rfl, rfl, fun c other => ?_, rfl⟩
    exact State.recounted_ne other
  · exact answers_of_owner rfl takes rfl ((forHose_of_some named).trans (if_pos turned))
  · refine answers_of_owner rfl takes rfl ((forHose_of_some named).trans ?_)
    rw [if_neg (by simp [ident, unclaimed])]
    simp [State.manualIdentity, quickCodeOf, code, empty]
    rfl

end Sys2Proof.Machine
end

section
/-! The office commands that write the site tables, the accounts, the collection cursor and the clock (R85 to R92,
R114, R168), and the victim of R74. -/

namespace Sys2Proof.Machine

open Sys2Proof

variable {s t u w : State} {p : Port} {h k : Hose} {c d : Comp}

/-! ### The victim way (R74) -/

/-- The two pairs the bits point into are all four ways. -/
theorem way_in_pointed_pairs (b0 b1 b2 : Bool) (w : Fin 4) :
    let pointed (upper : Bool) : Fin 4 := if upper then (if b2 then 3 else 2) else (if b1 then 1 else 0)
    w = pointed b0 ∨ w = sibling (pointed b0) ∨ w = pointed !b0 ∨ w = sibling (pointed !b0) := by
  revert b0 b1 b2 w
  decide

/-- The walk ends on an unpinned way wherever one is unpinned. -/
theorem CacheSet.walk_unpinned {c : CacheSet} {w : Fin 4} (free : c.pinnedWay w = false) :
    c.pinnedWay c.walk = false := by
  unfold CacheSet.walk
  simp only [Bool.not_eq_true']
  split
  · assumption
  · next first =>
    split
    · assumption
    · next second =>
      split
      · assumption
      · next third =>
        have pairs : w = c.pointed c.bit0 ∨ w = sibling (c.pointed c.bit0) ∨ w = c.pointed (!c.bit0)
            ∨ w = sibling (c.pointed !c.bit0) := way_in_pointed_pairs c.bit0 c.bit1 c.bit2 w
        rcases pairs with e | e | e | e
        · exact absurd (e ▸ free) first
        · exact absurd (e ▸ free) second
        · exact absurd (e ▸ free) third
        · exact e ▸ free

/-- Settles O30: the first invalid way of the list, or the walk's. -/
theorem victimIsInvalidOrUnpinned : Obligations.VictimIsInvalidOrUnpinned := by
  intro c
  refine ⟨fun ⟨v, empty⟩ => ?_, fun valid ⟨w, free⟩ => ?_⟩
  · have some_found : (allWays.find? fun w => (c.ways.get w).isNone).isSome := by
      rw [List.find?_isSome]
      exact ⟨v, mem_allWays v, by simp [empty]⟩
    obtain ⟨x, found⟩ := Option.isSome_iff_exists.mp some_found
    have victim : c.victim = x := by simp [CacheSet.victim, found]
    obtain ⟨invalid, before, after, split, earlier⟩ := List.find?_eq_some_iff_append.mp found
    rw [victim]
    refine ⟨by simpa using invalid, fun w none_w => ?_⟩
    have sorted : allWays.Pairwise (· < ·) := by decide
    have mem := mem_allWays w
    rw [split, List.pairwise_append, List.pairwise_cons] at sorted
    rw [split, List.mem_append, List.mem_cons] at mem
    obtain ⟨-, ⟨first, -⟩, -⟩ := sorted
    rcases mem with mem | rfl | mem
    · exact absurd (earlier w mem) (by simp [none_w])
    · exact le_rfl
    · exact (first w mem).le
  · have victim : c.victim = c.walk := by
      unfold CacheSet.victim
      rw [List.find?_eq_none.mpr fun w _ => by simpa using valid w]
    rw [victim]
    exact CacheSet.walk_unpinned free

/-! ### SET_QUICK_CODE and SET_PRICE (R85, R114) -/

theorem Vector.get_set_ite {α : Type} {n : Nat} (v : Vector α n) (i j : Fin n) (x : α) :
    (v.set i.val x i.isLt).get j = if j = i then x else v.get j := by
  simp only [Vector.get_eq_getElem, Vector.getElem_set, Fin.ext_iff, eq_comm]

/-- Settles O33. -/
theorem quickCodeAndPriceReplaced : Obligations.QuickCodeAndPriceReplaced := by
  refine ⟨fun s k m takes => ⟨fun out => ?_, fun i code range => ?_⟩,
    fun s k v takes => ⟨fun out => ?_, fun c product range => ?_⟩⟩
  · refine answers_of_owner (owner := ownSetQuickCode k m) rfl takes rfl ?_
    unfold ownSetQuickCode
    by_cases code : k.toNat < 16
    · have great : 16777214 < m.toNat := out.resolve_left (by omega)
      simp only [quickCodeOf, dif_pos code]
      rw [if_neg (by simp [machineInRange]; omega)]
      rfl
    · simp only [quickCodeOf, code, dif_neg, not_false_eq_true]
      rfl
  · have code_lt : k.toNat < 16 := code ▸ i.isLt
    have own : ownSetQuickCode k m s = accepted (s.modRoster fun r =>
        { r with quickCodes := r.quickCodes.set i.val (if m.toNat = 0 then none else some m.toNat) i.isLt }) := by
      unfold ownSetQuickCode
      rw [show quickCodeOf k.toNat = some i by simp [quickCodeOf, code]]
      exact if_pos (by simp [machineInRange]; omega)
    have run := exec_of_owner (i := .setQuickCode .office k m) rfl takes rfl own
    exact ⟨_, run.trans (State.finish_eq _), (Vector.get_set_ite _ i i _).trans (if_pos rfl),
      fun j other => (Vector.get_set_ite _ i j _).trans (if_neg other), rfl, rfl, rfl⟩
  · refine answers_of_owner (owner := ownSetPrice k v) rfl takes rfl ?_
    unfold ownSetPrice
    cases product : productOf k with
    | none => rfl
    | some c => exact if_pos (out.resolve_left (by simp [product]))
  · have own : ownSetPrice k v s = accepted { s with prices := s.prices.set c v.toNat } := by
      unfold ownSetPrice
      simp only [product]
      exact if_neg (Nat.not_lt_of_le range)
    have run := exec_of_owner (i := .setPrice .office k v) rfl takes rfl own
    exact ⟨_, run.trans (State.finish_eq _), rfl, rfl, rfl⟩

/-! ### Accounts (R88, R89) -/

theorem Roster.modAccount_get (r : Roster) (i j : Fin 32) (f : Account → Account) :
    (r.modAccount i f).accounts.get j = if j = i then f (r.accounts.get i) else r.accounts.get j :=
  Vector.get_set_ite _ i j _

theorem capTooGreat_iff (cap : BitVec 32) : capTooGreat cap = true ↔ cap ≠ 0xFFFFFFFF#32 ∧ 99999999 < cap.toNat := by
  unfold capTooGreat capOf
  by_cases absent : cap = 0xFFFFFFFF#32
  · simp [absent]
  · rw [if_neg absent]
    exact decide_eq_true_iff.trans (and_iff_right absent).symm

/-- Settles O34. -/
theorem accountsSetAndReset : Obligations.AccountsSetAndReset := by
  refine ⟨?set, ?reset⟩
  case set =>
    intro s b i code cap takes named a v
    refine ⟨fun present great => ?_, fun range busy => ?_, fun range idle => ?_⟩
    · refine answers_of_owner (owner := ownSetAccount b code cap) rfl takes rfl ?_
      simp only [ownSetAccount, named]
      exact if_pos ((capTooGreat_iff cap).mpr ⟨present, great⟩)
    · have small : ¬ capTooGreat cap = true := fun great => range.elim ((capTooGreat_iff cap).mp great).1
        (Nat.not_le_of_lt ((capTooGreat_iff cap).mp great).2)
      refine answers_of_owner (owner := ownSetAccount b code cap) rfl takes rfl ?_
      simp only [ownSetAccount, named]
      exact (if_neg small).trans (if_pos busy)
    · have small : ¬ capTooGreat cap = true := fun great => range.elim ((capTooGreat_iff cap).mp great).1
        (Nat.not_le_of_lt ((capTooGreat_iff cap).mp great).2)
      have own : ownSetAccount b code cap s =
          accepted (s.modRoster fun r => r.modAccount i fun a => a.write code.toNat v) := by
        simp only [ownSetAccount, named]
        exact (if_neg small).trans (if_neg (by simp [idle]))
      have run := exec_of_owner (i := .setAccount .office b code cap) rfl takes rfl own
      exact ⟨_, run.trans (State.finish_eq _), (Roster.modAccount_get _ i i _).trans (if_pos rfl),
        fun j other => (Roster.modAccount_get _ i j _).trans (if_neg other), rfl, rfl, rfl⟩
  case reset =>
    refine fun s b takes => ⟨fun unnamed => ?_, fun i named => ?_⟩
    · refine answers_of_owner (owner := ownResetPeriod b) rfl takes rfl ?_
      simp only [ownResetPeriod, unnamed]
      rfl
    · have own : ownResetPeriod b s =
          answerWith (s.modRoster fun r => r.modAccount i Account.resetPeriod) (s.periodPayload i) := by
        simp only [ownResetPeriod, named]
      have run := exec_of_owner (i := .resetPeriod .office b) rfl takes rfl own
      exact ⟨_, run.trans (State.finish_eq _), (Roster.modAccount_get _ i i _).trans (if_pos rfl),
        fun j other => (Roster.modAccount_get _ i j _).trans (if_neg other), rfl, rfl, rfl⟩

/-! ### READ_NEXT (R168) -/

/-- In a sound journal READ_NEXT finds as many records as stand between the cursor and the next number. -/
theorem Journal.nextRecords_length {j : Journal} (sound : j.sound) :
    j.nextRecords.length = min 3 (j.next - j.cursor) := by
  obtain ⟨run, -, -, -, low, high⟩ := sound
  simp only [Journal.nextRecords, List.length_take, List.length_drop]
  omega

/-- Settles O35. -/
theorem readNextReturnsRecords : Obligations.ReadNextReturnsRecords := by
  intro s takes sound j n
  have length : j.nextRecords.length = n := Journal.nextRecords_length sound
  have records : j.nextRecords = (j.records.drop (j.cursor - j.oldest)).take n := by
    rw [← length, Journal.nextRecords, List.length_take, ← List.take_eq_take_min]
  have own : ownReadNext s =
      answerWith (s.modJournal fun j => { j with cursor := j.cursor + n })
        (({ j with cursor := j.cursor + n } : Journal).summary ++ [BitVec.ofNat 8 n]
          ++ ((j.records.drop (j.cursor - j.oldest)).take n).flatMap JournalRecord.bytes) := by
    unfold ownReadNext
    rw [← records, ← length, ← field_one (by rw [length]; omega)]
    rfl
  have run := exec_of_owner (i := .readNext .office) rfl takes rfl own
  exact ⟨_, run.trans (State.finish_eq _), rfl, rfl, rfl⟩

/-! ### The clock and the site settings (R90 to R92) -/

theorem State.checkRollover_stands (stays : s.clock.valid = false ∨
    siteDay s.clock.counter s.roster.site.boundaryHour ≤ s.roster.stamp) : s.checkRollover = s := by
  unfold State.checkRollover
  rw [if_neg (by rcases stays with e | e <;> simp [e])]

theorem State.checkRollover_rolls (valid : s.clock.valid = true)
    (past : s.roster.stamp < siteDay s.clock.counter s.roster.site.boundaryHour) :
    s.checkRollover =
      { s with
        roster := s.roster.rollover (siteDay s.clock.counter s.roster.site.boundaryHour)
        ports := (s.raise .dayRollover).ports } := by
  unfold State.checkRollover
  rw [if_pos (by simp [valid, past])]
  rfl

theorem Roster.rollover_account (r : Roster) (day : Nat) (i : Fin 32) :
    (r.rollover day).accounts.get i = { r.accounts.get i with dayCharged := 0 } := by
  simp [Roster.rollover, Vector.get_eq_getElem]

/-- Settles O39: the rollover check, past the stamp or not. -/
theorem clockAndRollover : Obligations.ClockAndRollover := by
  refine ⟨fun s v takes => ?_, fun s running => ?_⟩
  · let u : State := { s with clock := ⟨v.toNat, true⟩ }
    have run : exec (.setClock .office v) s = (u.checkRollover.answer .office ⟨.ok, []⟩).finish :=
      exec_of_owner rfl takes rfl rfl
    by_cases past : s.roster.stamp < siteDay v.toNat s.roster.site.boundaryHour
    · rw [State.checkRollover_rolls (s := u) rfl past] at run
      exact ⟨_, run.trans (State.finish_eq _), rfl,
        fun _ => ⟨rfl, rfl, Roster.rollover_account _ _,
          Roster.entryAt_rollover _ _, rfl⟩,
        fun le => absurd past (Nat.not_lt_of_le le), rfl⟩
    · rw [State.checkRollover_stands (s := u) (.inr (Nat.le_of_not_lt past))] at run
      exact ⟨_, run.trans (State.finish_eq _), rfl, fun lt => absurd lt past, fun _ => ⟨rfl, rfl⟩, rfl⟩
  · let u : State :=
      { s with now := (s.now / 1000 + 1) * 1000, clock := { s.clock with counter := s.clock.counter + 1 } }
    have run : exec .clockTick s = u.checkRollover.finish := congrArg State.finish (if_pos running)
    by_cases rolls : s.clock.valid = true
        ∧ s.roster.stamp < siteDay (s.clock.counter + 1) s.roster.site.boundaryHour
    · obtain ⟨valid, past⟩ := rolls
      rw [State.checkRollover_rolls (s := u) valid past] at run
      exact ⟨_, run.trans (State.finish_eq _), rfl,
        fun _ _ => ⟨rfl, rfl, Roster.rollover_account _ _,
          Roster.entryAt_rollover _ _⟩,
        fun stays => stays.elim (fun invalid => absurd valid (by simp [invalid]))
          fun le => absurd past (Nat.not_lt_of_le le), rfl⟩
    · have stays : s.clock.valid = false
          ∨ siteDay (s.clock.counter + 1) s.roster.site.boundaryHour ≤ s.roster.stamp := by
        cases valid : s.clock.valid with
        | false => exact .inl rfl
        | true => exact .inr (Nat.le_of_not_lt fun past => rolls ⟨valid, past⟩)
      rw [State.checkRollover_stands (s := u) stays] at run
      exact ⟨_, run.trans (State.finish_eq _), rfl, fun valid past => absurd ⟨valid, past⟩ rolls, fun _ => ⟨rfl, rfl⟩,
        rfl⟩

theorem yesNoOf_le_one {b : Byte} (le : b.toNat ≤ 1) : yesNoOf b = some (b.toNat == 1) := by
  unfold yesNoOf
  rcases Nat.le_one_iff_eq_zero_or_eq_one.mp le with e | e <;> simp [e]

theorem yesNoOf_gt_one {b : Byte} (gt : 1 < b.toNat) : yesNoOf b = none := by
  unfold yesNoOf
  split
  · omega
  · omega
  · rfl

/-- SET_SITE is refused with any value out of its range (R92). -/
theorem siteOf_out_of_range {hr acc req : Byte} {cap : BitVec 24}
    (out : 23 < hr.toNat ∨ cap.toNat < 100 ∨ 999999 < cap.toNat ∨ 31 < acc.toNat ∨ 1 < req.toNat) :
    siteOf hr cap acc req = none := by
  unfold siteOf
  split
  · next i q account required =>
    have named : acc.toNat ≤ 31 := by
      by_contra great
      simp [accountOf, show ¬ acc.toNat < 32 by omega] at account
    have answered : req.toNat ≤ 1 := by
      by_contra great
      simp [yesNoOf_gt_one (Nat.lt_of_not_le great)] at required
    rw [if_neg (by omega)]
  · rfl

theorem siteOf_in_range {hr acc req : Byte} {cap : BitVec 24} {i : Fin 32} (account : acc.toNat = i.val)
    (hour : hr.toNat ≤ 23) (low : 100 ≤ cap.toNat) (high : cap.toNat ≤ 999999) (required : req.toNat ≤ 1) :
    siteOf hr cap acc req = some ⟨hr.toNat, cap.toNat, i, req.toNat == 1⟩ := by
  have named : accountOf acc = some i := by simp [accountOf, account]
  unfold siteOf
  rw [named, yesNoOf_le_one required]
  exact if_pos ⟨hour, low, high⟩

/-- Settles O40. -/
theorem setSiteStoresAll : Obligations.SetSiteStoresAll := by
  intro s hr acc req cap takes
  constructor
  · intro out
    refine answers_of_owner (owner := ownSetSite hr cap acc req) rfl takes rfl ?_
    simp only [ownSetSite, siteOf_out_of_range out]
    rfl
  · intro i account hour low high required site
    let u := s.modRoster fun r => { r with site := site }
    have own : ownSetSite hr cap acc req s = accepted u.checkRollover := by
      simp only [ownSetSite, siteOf_in_range account hour low high required]
      rfl
    have run := exec_of_owner (i := .setSite .office hr cap acc req) rfl takes rfl own
    by_cases rolls : s.clock.valid = true ∧ s.roster.stamp < siteDay s.clock.counter hr.toNat
    · obtain ⟨valid, past⟩ := rolls
      rw [State.checkRollover_rolls (s := u) valid past] at run
      exact ⟨_, run.trans (State.finish_eq _), rfl,
        fun stays => stays.elim (fun invalid => absurd valid (by simp [invalid]))
          fun le => absurd past (Nat.not_lt_of_le le), rfl, rfl⟩
    · have stays : s.clock.valid = false ∨ siteDay s.clock.counter hr.toNat ≤ s.roster.stamp := by
        cases valid : s.clock.valid with
        | false => exact .inl rfl
        | true => exact .inr (Nat.le_of_not_lt fun past => rolls ⟨valid, past⟩)
      rw [State.checkRollover_stands (s := u) stays] at run
      exact ⟨_, run.trans (State.finish_eq _), rfl, fun _ => ⟨rfl, rfl⟩, rfl, rfl⟩

end Sys2Proof.Machine
end

section
/-! What the Roster Unit's operations leave in a way, and the roster commands that answer the slots that wait (R74 to
R79, R98). -/

namespace Sys2Proof.Machine

open Sys2Proof

variable {s t u w : State} {p : Port} {h k : Hose} {c d : Comp}

/-! ### The other hoses -/

theorem sameOtherHoses.refl (h : Hose) (s : State) : sameOtherHoses h s s :=
  fun _ _ => ⟨rfl, rfl, rfl, rfl, rfl, rfl⟩

theorem sameOtherHoses.trans (f : sameOtherHoses h s t) (g : sameOtherHoses h t u) : sameOtherHoses h s u := by
  intro k other
  obtain ⟨slots, chan, hoseCtl, tracking, reader, tag⟩ := f k other
  obtain ⟨slots', chan', hoseCtl', tracking', reader', tag'⟩ := g k other
  exact ⟨slots'.trans slots, chan'.trans chan, hoseCtl'.trans hoseCtl, tracking'.trans tracking, reader'.trans reader,
    tag'.trans tag⟩

theorem sameOtherHoses.slotState (f : sameOtherHoses h s t) (other : k ≠ h) : t.slotState k = s.slotState k :=
  congrArg Slot.state (f k other).1

theorem sameOtherHoses.modSlot (s : State) (h : Hose) (f : Slot → Slot) : sameOtherHoses h s (s.modSlot h f) := by
  intro k other
  simp [other]

theorem sameOtherHoses.setSlotState (s : State) (h : Hose) (st : SlotState) :
    sameOtherHoses h s (s.setSlotState h st) := by
  intro k other
  rw [State.setSlotState_eq]
  simp [other]

theorem sameOtherHoses.enterClosing (s : State) (h : Hose) (cause : EndCause) :
    sameOtherHoses h s (s.enterClosing h cause) := by
  intro k other
  cases runs : (s.slotState h).running with
  | true => rw [State.enterClosing_eq cause runs]; simp [other]
  | false => rw [State.enterClosing_idle s cause runs]; simp

theorem sameOtherHoses.compareVolume (s : State) (h : Hose) : sameOtherHoses h s (s.compareVolume h) := by
  rcases s.compareVolume_cases h with e | e | e <;> rw [e]
  · exact sameOtherHoses.enterClosing s h _
  · refine sameOtherHoses.trans (fun k other => ?_) (sameOtherHoses.setSlotState _ h _)
    simp [other]
  · exact sameOtherHoses.refl h s

theorem sameOtherHoses.restockIfFell (s : State) (h : Hose) (c : Comp) (before : Nat) :
    sameOtherHoses h s (s.restockIfFell c before) := by
  rw [State.restockIfFell_frame]
  exact sameOtherHoses.refl h s

theorem sameOtherHoses.authorise (s : State) (h : Hose) (e : Entry) (v : AuthorisedVolume) :
    sameOtherHoses h s (s.authorise h e v) := by
  rw [State.authorise_readied]
  refine sameOtherHoses.trans (sameOtherHoses.trans (fun k other => ?_) (sameOtherHoses.restockIfFell _ h _ _))
    (sameOtherHoses.compareVolume _ h)
  rw [State.readied_eq]
  simp [other]

theorem sameOtherHoses.refuse (s : State) (h : Hose) (reason : RefusalReason) :
    sameOtherHoses h s (s.refuse h reason) := by
  unfold State.refuse
  rw [State.releaseEntry_frame]
  exact sameOtherHoses.trans (fun k other => by simp [other]) (sameOtherHoses.setSlotState _ h _)

theorem sameOtherHoses.attempt (s : State) (h : Hose) : sameOtherHoses h s (s.attempt h) := by
  cases entry : s.slotEntry h with
  | none =>
    rw [show s.attempt h = s by simp only [State.attempt, entry]]
    exact sameOtherHoses.refl h s
  | some e =>
    cases verdict : s.verdict h e with
    | error reason =>
      rw [State.attempt_refused entry verdict]
      exact (sameOtherHoses.modSlot s h _).trans (sameOtherHoses.refuse _ h _)
    | ok v =>
      rw [State.attempt_authorised entry verdict]
      exact (sameOtherHoses.modSlot s h _).trans (sameOtherHoses.authorise _ h e v)

theorem sameOtherHoses.lookupCompleted (s : State) (h : Hose) : sameOtherHoses h s (s.lookupCompleted h) := by
  unfold State.lookupCompleted
  split
  · exact sameOtherHoses.refl h s
  · split
    · exact (sameOtherHoses.modSlot s h _).trans (sameOtherHoses.setSlotState _ h _)
    · exact sameOtherHoses.attempt s h

theorem sameOtherHoses.giveEntry (s : State) (h : Hose) (w : WayRef) : sameOtherHoses h s (s.giveEntry h w) :=
  sameOtherHoses.trans (fun k other => by simp [other]) (sameOtherHoses.lookupCompleted _ h)

/-! ### The ways of the cache -/

/-- The way a fill of the machine's set takes (R71, R74). -/
def Roster.victimWay (r : Roster) (m : Nat) : WayRef := ⟨machineSet m, (r.cache.get (machineSet m)).victim⟩

theorem Roster.entryAt_fill (r : Roster) (b : EntryBody) (o : Origin) (v : WayRef) :
    (r.fill b o).entryAt v =
      if v = r.victimWay b.machine then some ⟨r.checkedBody b, o, 0, none⟩ else r.entryAt v := by
  unfold Roster.fill
  rw [Roster.entryAt_touch, Roster.entryAt_putEntry]
  rfl

/-- A machine that was not cached is found in the way its fill took. -/
theorem Roster.findWay_fill {r : Roster} {b : EntryBody} (o : Origin) (miss : r.findWay b.machine = none) :
    (r.fill b o).findWay b.machine = some (r.victimWay b.machine) := by
  cases found : (r.fill b o).findWay b.machine with
  | none =>
    have here : (r.fill b o).entryAt (r.victimWay b.machine) = some ⟨r.checkedBody b, o, 0, none⟩ := by
      rw [Roster.entryAt_fill, if_pos rfl]
    exact absurd rfl (Roster.findWay_none found _ here)
  | some v =>
    obtain ⟨set, e, at_v, machine⟩ := Roster.findWay_some found
    rw [Roster.entryAt_fill] at at_v
    split at at_v
    · next same => rw [same]
    · obtain ⟨i, k⟩ := v
      cases set
      exact absurd machine (Roster.findWay_none miss k at_v)

theorem Roster.load_miss {r : Roster} {b : EntryBody} (miss : r.findWay b.machine = none) :
    r.load b = r.fill b .roster := by
  unfold Roster.load
  rw [miss]

theorem Roster.load_frame (r : Roster) (b : EntryBody) : r.load b = { r with cache := (r.load b).cache } := by
  unfold Roster.load
  split
  · rfl
  · split
    · rfl
    · split <;> rfl

theorem Roster.entryAt_load_hit {r : Roster} {b : EntryBody} {w : WayRef} {x : Entry}
    (hit : r.findWay b.machine = some w) (at_w : r.entryAt w = some x) (v : WayRef) :
    (r.load b).entryAt v =
      if v = w then
        if x.pins = 0 then some ⟨r.checkedBody b, .roster, 0, none⟩
        else some { x with pendingUpdate := some (.replace b) }
      else r.entryAt v := by
  unfold Roster.load
  simp only [hit, at_w]
  split
  · rw [Roster.entryAt_touch, Roster.entryAt_putEntry]
  · rw [Roster.entryAt_putEntry]

theorem Roster.dropMachine_miss {r : Roster} {m : Nat} (miss : r.findWay m = none) : r.dropMachine m = r := by
  unfold Roster.dropMachine
  rw [miss]

theorem Roster.dropMachine_frame (r : Roster) (m : Nat) :
    r.dropMachine m = { r with cache := (r.dropMachine m).cache } := by
  unfold Roster.dropMachine
  split
  · rfl
  · split
    · rfl
    · split <;> rfl

theorem Roster.entryAt_dropMachine_hit {r : Roster} {m : Nat} {w : WayRef} {x : Entry} (hit : r.findWay m = some w)
    (at_w : r.entryAt w = some x) (v : WayRef) :
    (r.dropMachine m).entryAt v =
      if v = w then if x.pins = 0 then none else some { x with pendingUpdate := some .drop } else r.entryAt v := by
  unfold Roster.dropMachine
  simp only [hit, at_w]
  split <;> rw [Roster.entryAt_putEntry]

/-! ### The slots that wait -/

theorem State.waitsFor_eq_false {m : Nat} {wanted : Bool} (asleep : s.slotState h = .lookup → wanted = false)
    (passed : s.slotState h ≠ .overrideWait) : s.waitsFor m wanted h = false := by
  unfold State.waitsFor
  split
  · next e => exact asleep e
  · next e => exact absurd e passed
  · rfl

theorem State.giveLoaded_rests {m : Nat} {wanted : Bool} (rests : s.waitsFor m wanted h = false) :
    s.giveLoaded m wanted h = s := by simp [State.giveLoaded, rests]

theorem sameOtherHoses.giveLoaded (s : State) (m : Nat) (wanted : Bool) (h : Hose) :
    sameOtherHoses h s (s.giveLoaded m wanted h) := by
  unfold State.giveLoaded
  split
  · split
    · exact sameOtherHoses.giveEntry s h _
    · exact sameOtherHoses.refl h s
  · exact sameOtherHoses.refl h s

theorem State.refuseUnlisted_rests {m : Nat} {wanted : Bool} (rests : s.waitsFor m wanted h = false) :
    s.refuseUnlisted m wanted h = s := by simp [State.refuseUnlisted, rests]

theorem sameOtherHoses.refuseUnlisted (s : State) (m : Nat) (wanted : Bool) (h : Hose) :
    sameOtherHoses h s (s.refuseUnlisted m wanted h) := by
  unfold State.refuseUnlisted
  split
  · exact sameOtherHoses.refuse s h _
  · exact sameOtherHoses.refl h s

/-- The state neither waits on a request nor for the supervisor. -/
def SlotState.passive (st : SlotState) : Prop := st ≠ .lookup ∧ st ≠ .overrideWait

theorem State.waitsFor_passive {m : Nat} {wanted : Bool} (rests : (s.slotState h).passive) :
    s.waitsFor m wanted h = false :=
  State.waitsFor_eq_false (fun e => absurd e rests.1) rests.2

/-- An operation of three hoses in turn that rests at some slots, where it rests at all but one. -/
theorem only_one_acts {f : Hose → State → State} {rest : Hose → SlotState → Prop}
    (others : ∀ k s, sameOtherHoses k s (f k s)) (rests : ∀ k s, rest k (s.slotState k) → f k s = s)
    (alone : ∀ k, k ≠ h → rest k (s.slotState k)) :
    f .h3 (f .h2 (f .h1 s)) = f h s := by
  have later (k : Hose) (other : k ≠ h) : f k (f h s) = f h s :=
    rests k _ ((others h s).slotState other ▸ alone k other)
  cases h with
  | h1 => rw [later .h2 (by decide), later .h3 (by decide)]
  | h2 => rw [rests .h1 s (alone .h1 (by decide)), later .h3 (by decide)]
  | h3 => rw [rests .h1 s (alone .h1 (by decide)), rests .h2 s (alone .h2 (by decide))]

theorem Roster.waitsOn_none {r : Roster} {m : Nat} (unasked : ∀ q ∈ r.requests, q.machine ≠ m) (h : Hose) :
    r.waitsOn m h = false := by
  have absent : r.requestOf m = none := List.find?_eq_none.mpr fun q mem => by simpa using unasked q mem
  simp [Roster.waitsOn, absent]

theorem Roster.removeRequest_none {r : Roster} {m : Nat} (unasked : ∀ q ∈ r.requests, q.machine ≠ m) :
    r.removeRequest m = r := by
  unfold Roster.removeRequest
  rw [List.eraseP_of_forall_not fun q mem => by simpa using unasked q mem]

/-- An answer with no request and no slot in OVERRIDE_WAIT changes nothing (R78). -/
theorem State.answerWaiting_none {m : Nat} (unasked : ∀ q ∈ s.roster.requests, q.machine ≠ m)
    (served : ∀ h, s.slotState h ≠ .overrideWait) : s.answerWaiting m = s := by
  have gone : (s.modRoster fun r => r.removeRequest m) = s := by
    simp only [State.modRoster, Roster.removeRequest_none unasked]
  have rests (h : Hose) : s.giveLoaded m (s.roster.waitsOn m h) h = s :=
    State.giveLoaded_rests (State.waitsFor_eq_false (fun _ => Roster.waitsOn_none unasked h) (served h))
  unfold State.answerWaiting
  simp only [gone, rests]

/-! ### LOAD_ROSTER (R76, R78) -/

theorem ownLoadRoster_refused {e : WireEntry} (out : entryOf e = none) :
    ownLoadRoster 1 [e] s = denied s .outOfRange := by
  unfold ownLoadRoster entriesOf
  rw [out]
  rfl

theorem ownLoadRoster_one {e : WireEntry} {b : EntryBody} (entry : entryOf e = some b) :
    ownLoadRoster 1 [e] s = accepted (s.loadEntry b) := by
  unfold ownLoadRoster entriesOf
  rw [entry]
  rfl

/-- An entry loaded where nothing waits for it is written to the cache alone. -/
theorem State.loadEntry_quiet {b : EntryBody} (unasked : ∀ q ∈ s.roster.requests, q.machine ≠ b.machine)
    (served : ∀ h, s.slotState h ≠ .overrideWait) : s.loadEntry b = s.modRoster fun r => r.load b := by
  refine State.answerWaiting_none (fun q mem => unasked q ?_) served
  rw [State.modRoster, Roster.load_frame] at mem
  exact mem

theorem exec_loadRoster_quiet {e : WireEntry} {b : EntryBody} (takes : s.takes .office) (entry : entryOf e = some b)
    (unasked : ∀ q ∈ s.roster.requests, q.machine ≠ b.machine) (served : ∀ h, s.slotState h ≠ .overrideWait) :
    exec (.loadRoster .office 1 [e]) s = ((s.modRoster fun r => r.load b).answer .office ⟨.ok, []⟩).finish :=
  exec_of_owner (owner := ownLoadRoster 1 [e]) rfl takes rfl
    ((ownLoadRoster_one entry).trans (congrArg accepted (State.loadEntry_quiet unasked served)))

/-- The state that gives a loaded entry to the slot that waits for it. -/
def State.given (s : State) (b : EntryBody) (h : Hose) : State :=
  { s with
    slots := s.slots.set h { s.slots.get h with entry := some (s.roster.victimWay b.machine) }
    roster :=
      { (s.roster.fill b .roster).pin (s.roster.victimWay b.machine) with
        requests := s.roster.requests.eraseP fun q => q.machine == b.machine } }

theorem Roster.entryAt_pin (r : Roster) (w v : WayRef) :
    (r.pin w).entryAt v =
      if v = w then (r.entryAt w).map fun e => { e with pins := e.pins + 1 } else r.entryAt v := by
  unfold Roster.pin
  cases at_w : r.entryAt w with
  | none =>
    by_cases same : v = w
    · rw [if_pos same, same]
      exact at_w
    · exact (if_neg same).symm
  | some e =>
    simp only [Roster.entryAt_putEntry]
    rfl

/-- Only the cache tells which way is pinned. -/
theorem Roster.pin_removeRequest (r : Roster) (w : WayRef) (m : Nat) :
    (r.removeRequest m).pin w = (r.pin w).removeRequest m := by
  unfold Roster.pin
  rw [show (r.removeRequest m).entryAt w = r.entryAt w from rfl]
  cases r.entryAt w <;> rfl

/-- A loaded entry goes to the one slot that waits for it (R78). -/
theorem State.loadEntry_given {b : EntryBody} (miss : s.roster.findWay b.machine = none)
    (waiting : (s.slotState h = .lookup ∧ s.roster.waitsOn b.machine h = true)
      ∨ (s.slotState h = .overrideWait ∧ (s.slots.get h).machine = some b.machine))
    (alone : ∀ k, k ≠ h → (s.slotState k).passive) :
    s.loadEntry b = (s.given b h).lookupCompleted h := by
  let u := (s.modRoster fun r => r.load b).modRoster fun r => r.removeRequest b.machine
  have found : u.roster.findWay b.machine = some (s.roster.victimWay b.machine) := by
    rw [← Roster.findWay_fill .roster miss, ← Roster.load_miss miss]
    rfl
  have wanted : (s.roster.load b).waitsOn b.machine h = s.roster.waitsOn b.machine h := by
    rw [Roster.load_frame]
    rfl
  have waits : u.waitsFor b.machine ((s.roster.load b).waitsOn b.machine h) h = true := by
    rw [wanted]
    unfold State.waitsFor
    rcases waiting with ⟨state, on⟩ | ⟨state, machine⟩
    · rw [show u.slotState h = .lookup from state]
      exact on
    · rw [show u.slotState h = .overrideWait from state]
      exact beq_iff_eq.mpr machine
  have one : s.loadEntry b = u.giveLoaded b.machine ((s.roster.load b).waitsOn b.machine h) h :=
    only_one_acts (rest := fun _ st => st.passive) (f := fun k x => x.giveLoaded b.machine ((s.roster.load b).waitsOn b.machine k) k)
      (fun k x => sameOtherHoses.giveLoaded x _ _ k)
      (fun k x passive => State.giveLoaded_rests (State.waitsFor_passive passive)) alone
  rw [one, State.giveLoaded, if_pos waits, found]
  have given : (u.modRoster fun r => r.pin (s.roster.victimWay b.machine)).modSlot h
      (fun x => { x with entry := some (s.roster.victimWay b.machine) }) = s.given b h := by
    simp only [u, State.modRoster, State.modSlot, State.given, Roster.load_miss miss, Roster.pin_removeRequest]
    congr 2
    unfold Roster.pin
    split <;> rfl
  exact congrArg (fun x => State.lookupCompleted x h) given

theorem State.given_entry (s : State) (b : EntryBody) (h : Hose) (w : WayRef) :
    (s.given b h).roster.entryAt w =
      if w = s.roster.victimWay b.machine then some ⟨s.roster.checkedBody b, .roster, 1, none⟩
      else s.roster.entryAt w := by
  refine (Roster.entryAt_pin (s.roster.fill b .roster) (s.roster.victimWay b.machine) w).trans ?_
  rw [Roster.entryAt_fill, Roster.entryAt_fill, if_pos rfl]
  split <;> rfl

theorem State.given_slotEntry (s : State) (b : EntryBody) (h : Hose) :
    (s.given b h).slotEntry h = some ⟨s.roster.checkedBody b, .roster, 1, none⟩ := by
  unfold State.slotEntry
  rw [show ((s.given b h).slots.get h).entry = some (s.roster.victimWay b.machine) by simp [State.given]]
  exact (s.given_entry b h _).trans (if_pos rfl)

/-- A completed lookup that needs hours waits for them (R98). -/
theorem State.lookupCompleted_waits {e : Entry} (entry : s.slotEntry h = some e) (needs : s.needsHours h e = true)
    (active : s.slotState h ≠ .idle) :
    s.lookupCompleted h =
      { s with
        slots := s.slots.set h
          { s.slots.get h with state := .hoursWait, identTimer := some (s.now + 120000), overrideTimer := none }
        pumps := s.recounted h .hoursWait
        ports := (s.raise (.hoseState h)).ports } := by
  unfold State.lookupCompleted
  simp only [entry]
  rw [if_pos needs, State.setSlotState_active (by simpa [State.slotState] using active) (by decide),
    State.recounted_modSlot]
  simp [State.modSlot, State.timer]
  rfl

theorem State.lookupCompleted_attempts {e : Entry} (entry : s.slotEntry h = some e)
    (needs : ¬ s.needsHours h e = true) : s.lookupCompleted h = s.attempt h := by
  unfold State.lookupCompleted
  simp only [entry]
  exact if_neg needs

/-- Settles O29: nothing waits, a cached machine, or one slot that waits for the entry. -/
theorem loadRosterFillsVictim : Obligations.LoadRosterFillsVictim := by
  intro s e takes
  refine ⟨fun out => ?_, fun b entry miss unasked served => ?_, fun b entry w hit x at_w unasked served => ?_,
    fun b entry miss h waiting alone => ?_⟩
  · exact answers_of_owner (owner := ownLoadRoster 1 [e]) rfl takes rfl (ownLoadRoster_refused out)
  · have run := exec_loadRoster_quiet takes entry unasked served
    rw [State.modRoster, Roster.load_miss miss] at run
    exact ⟨_, run.trans (State.finish_eq _),
      ⟨(Roster.entryAt_fill _ b .roster _).trans (if_pos rfl),
        fun w other => (Roster.entryAt_fill _ b .roster w).trans (if_neg other)⟩, rfl, rfl, rfl⟩
  · have run := exec_loadRoster_quiet takes entry unasked served
    refine ⟨_, run.trans (State.finish_eq _), (Roster.entryAt_load_hit hit at_w w).trans (if_pos rfl),
      fun v other => (Roster.entryAt_load_hit hit at_w v).trans (if_neg other), ?_, rfl, rfl⟩
    exact Roster.load_frame s.roster b
  · intro way u needs
    have given : u = s.given b h := rfl
    have run : exec (.loadRoster .office 1 [e]) s = ((u.lookupCompleted h).answer .office ⟨.ok, []⟩).finish :=
      exec_of_owner (owner := ownLoadRoster 1 [e]) rfl takes rfl
        ((ownLoadRoster_one entry).trans (congrArg accepted (State.loadEntry_given miss waiting alone)))
    have needed : (u.needsHours h ⟨s.roster.checkedBody b, .roster, 1, none⟩ = true) ↔ needs := by
      simp [State.needsHours, needs, u, Roster.checkedBody, and_assoc]
    refine ⟨(s.given_entry b h way).trans (if_pos rfl), fun w other => (s.given_entry b h w).trans (if_neg other),
      fun wait => ?_, fun go => ?_⟩
    · have active : u.slotState h ≠ .idle := by
        rw [given, show (s.given b h).slotState h = s.slotState h by simp [State.given, State.slotState]]
        rcases waiting with ⟨state, -⟩ | ⟨state, -⟩ <;> rw [state] <;> decide
      rw [State.lookupCompleted_waits (s := u) (s.given_slotEntry b h) (needed.mpr wait) active] at run
      refine ⟨_, run.trans (State.finish_eq _), ?_, rfl, rfl⟩
      simp [State.answer, u, way]
    · rw [State.lookupCompleted_attempts (s := u) (s.given_slotEntry b h) (needed.not.mpr go)] at run
      exact ⟨_, run.trans (State.finish_eq _), rfl⟩

/-! ### DROP_ROSTER and NOT_ON_ROSTER (R79) -/

/-- NOT_ON_ROSTER marks no slot where none refers to the machine's entry. -/
theorem State.markRejected_rests {m : Nat} {w : WayRef} (found : s.roster.findWay m = some w)
    (unused : ∀ h, (s.slots.get h).entry ≠ some w) : s.markRejected m = s := by
  have rests (h : Hose) : s.rejectProvisional w h = s := if_neg (unused h)
  unfold State.markRejected
  simp only [found, rests]
  split
  · rfl
  · split <;> rfl

theorem State.markRejected_miss {m : Nat} (miss : s.roster.findWay m = none) : s.markRejected m = s := by
  unfold State.markRejected
  rw [miss]

/-- Settles O31. -/
theorem dropRosterInvalidatesOrStages : Obligations.DropRosterInvalidatesOrStages := by
  intro s m w e takes range found at_w
  refine ⟨?_, fun free passive unused => ?_⟩
  · have run := exec_of_owner (i := .dropRoster .office m) (owner := ownDropRoster m) rfl takes rfl (if_pos range)
    refine ⟨_, run.trans (State.finish_eq _), (Roster.entryAt_dropMachine_hit found at_w w).trans (if_pos rfl),
      fun v other => (Roster.entryAt_dropMachine_hit found at_w v).trans (if_neg other), ?_, rfl, rfl⟩
    exact Roster.dropMachine_frame s.roster m.toNat
  · have effect : s.notOnRoster m.toNat =
        s.modRoster fun r => (r.dropMachine m.toNat).removeRequest m.toNat := by
      unfold State.notOnRoster
      simp only [State.markRejected_rests found unused]
      have rests (wanted : Bool) (k : Hose) :
          (s.modRoster fun r => (r.dropMachine m.toNat).removeRequest m.toNat).refuseUnlisted m.toNat wanted k =
            s.modRoster fun r => (r.dropMachine m.toNat).removeRequest m.toNat :=
        State.refuseUnlisted_rests (State.waitsFor_passive (passive k))
      rw [rests, rests, rests]
    have own : ownNotOnRoster m s = accepted (s.notOnRoster m.toNat) := if_pos range
    rw [effect] at own
    have run := exec_of_owner (i := .notOnRoster .office m) rfl takes rfl own
    refine ⟨_, run.trans (State.finish_eq _), ?_, fun v other => ?_, ?_, rfl, rfl⟩
    · exact (Roster.entryAt_dropMachine_hit found at_w w).trans ((if_pos rfl).trans (if_pos free))
    · exact (Roster.entryAt_dropMachine_hit found at_w v).trans (if_neg other)
    · refine (congrArg (fun r => Roster.removeRequest r m.toNat) (Roster.dropMachine_frame s.roster m.toNat)).trans ?_
      rfl

theorem SlotState.passive_of_not_waiting {st : SlotState} (rests : st.waiting = false) : st.passive := by
  constructor <;> (rintro rfl; exact absurd rests (by decide))

/-- A slot that holds no entry is refused (R104). -/
theorem State.refuse_eq {reason : RefusalReason} (active : s.slotState h ≠ .idle) (bare : (s.slots.get h).entry = none) :
    s.refuse h reason =
      { s with
        slots := s.slots.set h
          { (s.slots.get h).refused reason (some (s.now + 120000)) with state := .ident }
        pumps := s.recounted h .ident
        ports := (s.raise (.hoseState h)).ports } := by
  unfold State.refuse
  rw [bare, State.setSlotState_active (by simpa [State.slotState, Slot.refused, State.releaseEntry] using active)
    (by decide), State.recounted_modSlot]
  simp [State.modSlot, State.releaseEntry, State.timer]
  rfl

/-- Settles O32. -/
theorem notOnRosterRefusesWaiter : Obligations.NotOnRosterRefusesWaiter := by
  intro s m h takes range miss waits looking bare alone
  let u := s.modRoster fun r => r.removeRequest m.toNat
  have wanted : u.waitsFor m.toNat (s.roster.waitsOn m.toNat h) h = true := by
    unfold State.waitsFor
    rw [show u.slotState h = .lookup from looking]
    exact waits
  have effect : s.notOnRoster m.toNat = u.refuse h .notOnRoster := by
    have one : s.notOnRoster m.toNat = u.refuseUnlisted m.toNat (s.roster.waitsOn m.toNat h) h := by
      unfold State.notOnRoster
      simp only [State.markRejected_miss miss]
      rw [State.modRoster, Roster.dropMachine_miss miss]
      exact only_one_acts (rest := fun _ st => st.passive)
        (f := fun k x => x.refuseUnlisted m.toNat (s.roster.waitsOn m.toNat k) k)
        (fun k x => sameOtherHoses.refuseUnlisted x _ _ k)
        (fun k x passive => State.refuseUnlisted_rests (State.waitsFor_passive passive))
        fun k other => SlotState.passive_of_not_waiting (alone k other)
    rw [one, State.refuseUnlisted, if_pos wanted]
  have own : ownNotOnRoster m s = accepted (s.notOnRoster m.toNat) := if_pos range
  rw [effect, State.refuse_eq (show u.slotState h ≠ .idle from looking ▸ by decide) bare] at own
  have run := exec_of_owner (i := .notOnRoster .office m) rfl takes rfl own
  exact ⟨_, run.trans (State.finish_eq _), rfl, rfl, rfl, rfl⟩

end Sys2Proof.Machine
end

section
/-! The receipts' openings, ends and cancellations, the depot settings and the staged table (R137 to R143, R180,
R183). -/

namespace Sys2Proof.Machine

open Sys2Proof

variable {s t u w : State} {p : Port} {h k : Hose} {c d : Comp}

/-! ### The Receipt Unit's operations -/

/-- The timer of a qualification, running where the gauge is VALID. -/
theorem State.qualificationNow_eq (c : Comp) (ms : Nat) :
    s.qualificationNow c ms = if (s.gauge.get c).state = .valid then some (s.now + ms) else none := rfl

/-- A fill that ends (R142, R147). -/
def Receipt.ended (r : Receipt) (counter : Nat) (limit qualification : Timer) : Receipt :=
  { r with state := .settling, fillEnd := some counter, limit := limit, qualification := qualification }

theorem State.endFill_eq (s : State) (c : Comp) :
    s.endFill c =
      { s with
        receipts := s.receipts.set c
          ((s.receipts.get c).ended s.clock.counter (some (s.now + 900000)) (s.qualificationNow c 120000))
        ports := (s.raise (.receiptState c)).ports } := by
  unfold State.endFill State.enterSettling
  simp [State.modReceipt, Receipt.ended]
  rfl

theorem State.modReceipt_endFill (s : State) (c : Comp) (f : Receipt → Receipt) :
    (s.modReceipt c f).endFill c =
      { s with
        receipts := s.receipts.set c
          ((f (s.receipts.get c)).ended s.clock.counter (some (s.now + 900000)) (s.qualificationNow c 120000))
        ports := (s.raise (.receiptState c)).ports } := by
  rw [State.endFill_eq]
  simp [State.modReceipt]
  exact ⟨rfl, rfl⟩

theorem State.checkVariance_frame (s : State) (c : Comp) :
    s.checkVariance c = { s with gauge := (s.checkVariance c).gauge, ports := (s.checkVariance c).ports } := by
  unfold State.checkVariance
  split
  · simp only
    split <;> rfl
  · rfl

theorem FlagsStand.checkVariance (s : State) (c : Comp) : FlagsStand s (s.checkVariance c) := by
  unfold State.checkVariance
  split
  · exact FlagsStand.ite (fun _ => (FlagsStand.of_ports rfl).trans (FlagsStand.raise _ .stockVariance))
      fun _ => FlagsStand.of_ports rfl
  · exact FlagsStand.refl s

/-- A cancellation before its variance check (R139). -/
def State.cancelled (s : State) (c : Comp) : State :=
  ((s.releaseSlot (.receipt c)).modReceipt c fun r =>
    { r with
      state := .closed, outcome := some .cancelled, qualification := none, limit := none
      v0 := none, dispensed := none }).raise (.receiptState c)

theorem State.cancelReceipt_eq (s : State) (c : Comp) :
    s.cancelReceipt c =
      { s with
        receipts := s.receipts.set c
          { s.receipts.get c with
            state := .closed, outcome := some .cancelled, qualification := none, limit := none
            v0 := none, dispensed := none }
        journal := { s.journal with
          register := s.journal.register.put (.receipt c) none
          highLatch := (s.releaseSlot (.receipt c)).journal.highLatch }
        gauge := (s.cancelReceipt c).gauge, ports := (s.cancelReceipt c).ports } := by
  have e : s.cancelReceipt c = (s.cancelled c).checkVariance c := rfl
  rw [e, State.checkVariance_frame, State.cancelled, State.releaseSlot_eq]
  rfl

theorem FlagsStand.cancelReceipt (s : State) (c : Comp) : FlagsStand (s.releaseSlot (.receipt c)) (s.cancelReceipt c) := by
  have cancelled : FlagsStand (s.releaseSlot (.receipt c)) (s.cancelled c) :=
    FlagsStand.trans (FlagsStand.of_ports rfl) (FlagsStand.raise _ (.receiptState c))
  exact cancelled.trans (FlagsStand.checkVariance _ c)

theorem highMarkFollows_of_release {k : Holder} (journal : t.journal = (s.releaseSlot k).journal)
    (flags : FlagsStand (s.releaseSlot k) t) : highMarkFollows s t :=
  highMarkFollows_of_noteFree (u := { s with journal := { s.journal with register := s.journal.register.put k none } })
    rfl rfl journal flags

theorem State.openReceipt_eq (s : State) (c : Comp) (docket declared : Nat) :
    s.openReceipt c docket declared =
      { s with
        receipts := s.receipts.set c
          { Receipt.fresh with
            state := .opening, docket := some docket, declared := some declared
            basis := some (s.depot.basis.get c), openTime := some s.clock.counter
            limit := some (s.now + 600000), qualification := s.qualificationNow c 30000 }
        journal := { s.journal with
          register := s.journal.register.put (.receipt c) (some !s.clock.valid)
          highLatch := (s.reserveSlot (.receipt c)).journal.highLatch }
        ports := (s.openReceipt c docket declared).ports } := by
  unfold State.openReceipt
  rw [State.reserveSlot_eq]
  rfl

theorem State.inletOpen_of_settling (settling : (s.receipts.get c).state ≠ .filling) : s.outputs.inlet.get c = false := by
  rw [State.outputs_inlet]
  simp [State.inletOpen, settling]

/-- Settles O41. -/
theorem receiptsOpenCloseAbort : Obligations.ReceiptsOpenCloseAbort := by
  intro s b c docket declared takes named r soon settling
  refine ⟨fun out => ?_, fun low high opened => ?_, fun low high closed full => ?_, fun low high closed room => ?_,
    fun filling => ⟨?_, ?_⟩, fun settled => ?_, fun early => ?_, fun opening => ?_, fun late => ?_⟩
  · refine answers_of_owner (owner := ownOpenReceipt b docket declared) rfl takes rfl ((forComp_of_some named).trans ?_)
    exact if_pos (by simp only [maxVolume]; omega)
  · refine answers_of_owner (owner := ownOpenReceipt b docket declared) rfl takes rfl ((forComp_of_some named).trans ?_)
    rw [if_neg (by simp only [maxVolume]; omega), if_pos opened]
    rfl
  · refine answers_of_owner (owner := ownOpenReceipt b docket declared) rfl takes rfl ((forComp_of_some named).trans ?_)
    rw [if_neg (by simp only [maxVolume]; omega), if_neg (not_not.mpr closed), if_pos full]
    rfl
  · have own : ownOpenReceipt b docket declared s = accepted (s.openReceipt c docket.toNat declared.toNat) := by
      refine (forComp_of_some named).trans ?_
      rw [if_neg (by simp only [maxVolume]; omega), if_neg (not_not.mpr closed), if_neg room.ne']
    have run := exec_of_owner (i := .openReceipt .depot b docket declared) rfl takes rfl own
    have reserved : FlagsStand (s.reserveSlot (.receipt c)) (s.openReceipt c docket.toNat declared.toNat) :=
      FlagsStand.trans (FlagsStand.of_ports rfl) (FlagsStand.raise _ (.receiptState c))
    have answered := FlagsStand.answer (s.openReceipt c docket.toNat declared.toNat) .depot ⟨.ok, []⟩
    have raised : s.supply = .normal →
        ((s.openReceipt c docket.toNat declared.toNat).ports.get .depot).hasFlag .depot (.receiptState c) = true :=
      fun normal => State.raise_hasFlag (by rw [State.reserveSlot_eq]; exact normal) (by cases c <;> decide)
    rw [State.openReceipt_eq] at run
    refine ⟨_, run.trans (State.finish_eq _), rfl, rfl, highMarkFollows_of_reserve (k := .receipt c) ?_
      (reserved.trans answered), rfl, answered.hasFlag (raised takes.2), rfl⟩
    exact (congrArg State.journal (State.reserveSlot_eq (s := s) (.receipt c))).symm
  · have own : ownCloseReceipt b s = accepted (s.endFill c) := by
      refine (forComp_of_some named).trans ?_
      simp only [show (s.receipts.get c).state = .filling from filling]
    have run := exec_of_owner (i := .closeReceipt .depot b) rfl takes rfl own
    rw [State.endFill_eq] at run
    refine ⟨_, run.trans (State.finish_eq _), rfl, rfl, State.inletOpen_of_settling ?_, rfl⟩
    simp [State.answer, Receipt.ended]
  · have own : ownAbortReceipt b s = accepted (s.abortFill c) := by
      refine (forComp_of_some named).trans ?_
      simp only [show (s.receipts.get c).state = .filling from filling]
    have run := exec_of_owner (i := .abortReceipt .depot b) rfl takes rfl own
    rw [State.abortFill, State.modReceipt_endFill] at run
    refine ⟨_, run.trans (State.finish_eq _), rfl, rfl, State.inletOpen_of_settling ?_, rfl⟩
    simp [State.answer, Receipt.ended]
  · refine answers_of_owner (owner := ownCloseReceipt b) rfl takes rfl ((forComp_of_some named).trans ?_)
    simp only [show (s.receipts.get c).state = .settling from settled]
    rfl
  · refine answers_of_owner (owner := ownCloseReceipt b) rfl takes rfl ((forComp_of_some named).trans ?_)
    rcases early with e | e <;> simp only [show (s.receipts.get c).state = _ from e] <;> rfl
  · have own : ownAbortReceipt b s = accepted (s.cancelReceipt c) := by
      refine (forComp_of_some named).trans ?_
      simp only [show (s.receipts.get c).state = .opening from opening]
    have run := exec_of_owner (i := .abortReceipt .depot b) rfl takes rfl own
    have answered := FlagsStand.answer (s.cancelReceipt c) .depot ⟨.ok, []⟩
    have released := FlagsStand.cancelReceipt s c
    rw [State.cancelReceipt_eq] at run
    refine ⟨_, run.trans (State.finish_eq _), rfl, rfl, highMarkFollows_of_release (k := .receipt c) ?_
      (released.trans answered), rfl, rfl⟩
    exact (congrArg State.journal (State.releaseSlot_eq (s := s) (.receipt c))).symm
  · refine answers_of_owner (owner := ownAbortReceipt b) rfl takes rfl ((forComp_of_some named).trans ?_)
    rcases late with e | e <;> simp only [show (s.receipts.get c).state = _ from e] <;> rfl

/-! ### SET_DEPOT (R183) -/

theorem State.reorderChanged_frame (s : State) (c : Comp) (old : Nat) :
    s.reorderChanged c old =
      { s with stock := (s.reorderChanged c old).stock, ports := (s.reorderChanged c old).ports } := by
  unfold State.reorderChanged
  split
  · rfl
  · rw [State.restockTest_frame]
    rfl

theorem State.reorderChanged_stock_ne {old : Nat} (other : d ≠ c) :
    (s.reorderChanged c old).stock.get d = s.stock.get d := by
  unfold State.reorderChanged
  split
  · rfl
  · rw [State.restockTest_stock_ne other]
    simp [other]

/-- Arming a compartment leaves its available stock. -/
theorem State.availableStock_armed (s : State) (c : Comp) (b : Bool) :
    (s.modStock c fun x => { x with armed := b }).availableStock c = s.availableStock c :=
  State.availableStock_congr (by simp) rfl fun _ => rfl

theorem State.suggestedVolume_armed (s : State) (c : Comp) (b : Bool) :
    (s.modStock c fun x => { x with armed := b }).suggestedVolume c = s.suggestedVolume c := by
  simp [State.suggestedVolume]

/-- A changed reorder level arms the compartment, and its restock test is made (R129). -/
theorem State.reorderChanged_stock (s : State) (c : Comp) (old : Nat) :
    (s.reorderChanged c old).stock.get c =
      if s.depot.reorder.get c = old then s.stock.get c
      else if s.availableStock c < s.depot.reorder.get c then
        { s.stock.get c with armed := false, lastNotice := some ⟨s.suggestedVolume c, s.clock.counter⟩ }
      else { s.stock.get c with armed := true } := by
  unfold State.reorderChanged
  split
  · rfl
  · split
    · next below =>
      rw [State.restockTest_acts ⟨by simp, by rw [State.availableStock_armed]; exact below⟩, State.suggestedVolume_armed]
      simp
    · next above =>
      rw [State.restockTest_rests fun both => above (by rw [State.availableStock_armed] at both; exact both.2)]
      simp

theorem State.setDepot_frame (s : State) (v : DepotSettings) :
    s.setDepot v = { s with depot := v, stock := (s.setDepot v).stock, ports := (s.setDepot v).ports } := by
  unfold State.setDepot
  rw [State.reorderChanged_frame, State.reorderChanged_frame]

theorem State.setDepot_stock (s : State) (v : DepotSettings) (c : Comp) :
    (s.setDepot v).stock.get c =
      if v.reorder.get c = s.depot.reorder.get c then s.stock.get c
      else if s.availableStock c < v.reorder.get c then
        { s.stock.get c with armed := false, lastNotice := some ⟨s.suggestedVolume c, s.clock.counter⟩ }
      else { s.stock.get c with armed := true } := by
  let u : State := { s with depot := v }
  cases c with
  | a => exact (State.reorderChanged_stock_ne (by decide)).trans (u.reorderChanged_stock .a _)
  | b =>
    have stock : (u.reorderChanged .a s.depot.reorder.a).stock.get .b = s.stock.get .b :=
      State.reorderChanged_stock_ne (by decide)
    have available : (u.reorderChanged .a s.depot.reorder.a).availableStock .b = s.availableStock .b :=
      State.availableStock_congr (by rw [stock]) (by rw [State.reorderChanged_frame])
        fun _ => by rw [State.reorderChanged_frame]; rfl
    have suggested : (u.reorderChanged .a s.depot.reorder.a).suggestedVolume .b = s.suggestedVolume .b := by
      simp only [State.suggestedVolume, stock]
      rw [State.reorderChanged_frame]
    refine (State.reorderChanged_stock _ .b _).trans ?_
    rw [stock, available, suggested, State.reorderChanged_frame]
    rfl

theorem basisOf_le_one {b : Byte} (le : b.toNat ≤ 1) :
    basisOf b = some (if b.toNat = 0 then .docket else .gauge) := by
  unfold basisOf
  rcases Nat.le_one_iff_eq_zero_or_eq_one.mp le with e | e <;> simp [e]

theorem basisOf_gt_one {b : Byte} (gt : 1 < b.toNat) : basisOf b = none := by
  unfold basisOf
  split
  · omega
  · omega
  · rfl

/-- Settles O42. -/
theorem setDepotStoresAll : Obligations.SetDepotStoresAll := by
  intro s ra rb ba bb band ahead runOn takes inRange
  refine ⟨fun out => ?_, fun basisA basisB range => ?_⟩
  · have refused : depotOf ra rb ba bb band ahead runOn = none := by
      unfold depotOf
      split
      · next x y first second =>
        have le_a : ba.toNat ≤ 1 := by
          by_contra great
          simp [basisOf_gt_one (Nat.lt_of_not_le great)] at first
        have le_b : bb.toNat ≤ 1 := by
          by_contra great
          simp [basisOf_gt_one (Nat.lt_of_not_le great)] at second
        refine if_neg fun range => ?_
        rcases out with gt | gt | wrong
        · omega
        · omega
        · exact wrong range
      · rfl
    refine answers_of_owner (owner := ownSetDepot ra rb ba bb band ahead runOn) rfl takes rfl ?_
    simp only [ownSetDepot, refused]
    rfl
  · let v : DepotSettings :=
      { reorder := ⟨ra.toNat, rb.toNat⟩
        basis := ⟨if ba.toNat = 0 then .docket else .gauge, if bb.toNat = 0 then .docket else .gauge⟩
        slowBand := band.toNat, closeAhead := ahead.toNat, runOn := runOn.toNat }
    have settings : depotOf ra rb ba bb band ahead runOn = some v := by
      unfold depotOf
      rw [basisOf_le_one basisA, basisOf_le_one basisB]
      exact if_pos range
    have own : ownSetDepot ra rb ba bb band ahead runOn s = accepted (s.setDepot v) := by
      simp only [ownSetDepot, settings]
    have run := exec_of_owner (i := .setDepot .depot ra rb ba bb band ahead runOn) rfl takes rfl own
    rw [State.setDepot_frame] at run
    exact ⟨_, run.trans (State.finish_eq _), rfl, fun c => s.setDepot_stock v c, rfl, rfl⟩

/-! ### CAL_STRAP_LOAD (R180) -/

theorem exec_calStrapLoad {b m count : Byte} {points : List WirePoint} {r : Response} (takes : s.takes .depot)
    (length : points.length = count.toNat) (own : ownCalStrapLoad b m count points s = (u, r)) :
    exec (.calStrapLoad .depot b m count points) s = (u.answer .depot r).finish := by
  have framed : strapFramed count points = true := by simp [strapFramed, length]
  exact exec_of_owner (owner := ownCalStrapLoad b m count points) (congrArg State.finish (if_pos framed)) takes rfl own

/-- With CAL_ENABLE asserted, points in range are staged or refused by what is staged already (R180). -/
theorem ownCalStrapLoad_unlocked {b m count : Byte} {points : List WirePoint} (named : compOf b = some c)
    (low : 1 ≤ count.toNat) (high : count.toNat ≤ 8) (range : points.all pointInRange = true) (mark : m.toNat ≤ 1)
    (enabled : s.switches.calEnable = true) :
    ownCalStrapLoad b m count points s = s.stage c (m.toNat == 1) (points.map pointOf) := by
  unfold ownCalStrapLoad State.unlocked
  rw [if_pos enabled, named, yesNoOf_le_one mark]
  exact if_neg (by simp only [range]; simp; omega)

/-- A frame that adds to a table needs one staged for its compartment (R180). -/
theorem Calibration.stagedBase_none {g : Calibration} (others : ∀ x, g.staged = some x → x.comp ≠ c) :
    g.stagedBase c false = none := by
  unfold Calibration.stagedBase
  cases staged : g.staged with
  | none => rfl
  | some x => simp [others x staged]

theorem Calibration.stagedBase_some {g : Calibration} {m : Byte}
    (based : m.toNat = 1 ∨ ∃ x, g.staged = some x ∧ x.comp = c) :
    g.stagedBase c (m.toNat == 1) = some (if m.toNat = 1 then [] else g.stagedPoints c) := by
  unfold Calibration.stagedBase Calibration.stagedPoints
  by_cases start : m.toNat = 1
  · simp [start]
  · obtain ⟨x, staged, comp⟩ := based.resolve_left start
    simp [start, staged, comp]

/-- Settles O44. -/
theorem strapLoadStages : Obligations.StrapLoadStages := by
  intro s b m count points c takes named low high length range mark
  refine ⟨fun released => ?_, fun enabled go_on others => ?_, ?_⟩
  · exact answers_of_exec_eq_answer (exec_calStrapLoad takes length (if_neg (by simp [released])))
  · refine answers_of_exec_eq_answer (exec_calStrapLoad takes length
      ((ownCalStrapLoad_unlocked named low high range mark enabled).trans ?_))
    simp only [State.stage, go_on, Calibration.stagedBase_none others, show (0 == 1) = false from rfl]
    rfl
  · intro enabled based base
    have staged : ownCalStrapLoad b m count points s =
        if 32 < base.length + points.length then denied s .outOfRange
        else accepted (s.modCal fun k => { k with staged := some ⟨c, base ++ points.map pointOf⟩ }) := by
      rw [ownCalStrapLoad_unlocked named low high range mark enabled, State.stage, Calibration.stagedBase_some based]
      simp only [List.length_map]
      rfl
    refine ⟨fun many => ?_, fun few => ?_⟩
    · exact answers_of_exec_eq_answer (exec_calStrapLoad takes length (staged.trans (if_pos many)))
    · have run := exec_calStrapLoad takes length (staged.trans (if_neg (Nat.not_lt_of_le few)))
      exact ⟨_, run.trans (State.finish_eq _), rfl, rfl, rfl⟩

end Sys2Proof.Machine
end

section
/-! The cut flag after its evaluation, ADJUST_STOCK, and the calibration writes with their record (R121, R122, R132,
R176, R177). -/

namespace Sys2Proof.Machine

open Sys2Proof

variable {s t u w : State} {p : Port} {h k : Hose} {c d : Comp}

/-! ### The cut flag (R121, R122) -/

theorem State.closeForCut_frame (c : Comp) :
    s.closeForCut c =
      { s with
        slots := (s.closeForCut c).slots, hoseCtl := (s.closeForCut c).hoseCtl, tracking := (s.closeForCut c).tracking
        pumps := (s.closeForCut c).pumps, ports := (s.closeForCut c).ports } := by
  cases c with
  | a =>
    unfold State.closeForCut
    rw [State.enterClosing_frame_eq, State.enterClosing_frame_eq .h1]
  | b => exact State.enterClosing_frame_eq .h3 .deadStock

theorem State.closeForCut_pumps_ne (other : d ≠ c) : (s.closeForCut c).pumps.get d = s.pumps.get d := by
  cases c with
  | a => exact (State.enterClosing_pumps_ne _ other).trans (State.enterClosing_pumps_ne _ other)
  | b => exact State.enterClosing_pumps_ne _ other

theorem State.closeForCut_reserved (c : Comp) (k : Hose) :
    (s.closeForCut c).reservedRemainder k = s.reservedRemainder k := by
  cases c with
  | a => exact (State.enterClosing_reserved .h2 _ k).trans (State.enterClosing_reserved .h1 _ k)
  | b => exact State.enterClosing_reserved .h3 _ k

theorem FlagsStand.closeForCut (s : State) (c : Comp) : FlagsStand s (s.closeForCut c) := by
  cases c with
  | a => exact (FlagsStand.enterClosing s .h1 _).trans (FlagsStand.enterClosing _ .h2 _)
  | b => exact FlagsStand.enterClosing s .h3 _

theorem SlotState.not_running_of_idle {st : SlotState} (idle : st = .idle) : st.running = false := by rw [idle]; rfl

/-- The cut closes nothing where every slot of the compartment is IDLE. -/
theorem State.closeForCut_idle (idle : s.compIdle c = true) : s.closeForCut c = s := by
  cases c with
  | a =>
    obtain ⟨first, second⟩ : s.slotState .h1 = .idle ∧ s.slotState .h2 = .idle := by
      simpa [State.compIdle, compHoses] using idle
    unfold State.closeForCut
    rw [State.enterClosing_idle s _ (SlotState.not_running_of_idle first),
      State.enterClosing_idle s _ (SlotState.not_running_of_idle second)]
  | b =>
    have third : s.slotState .h3 = .idle := by simpa [State.compIdle, compHoses] using idle
    exact State.enterClosing_idle s _ (SlotState.not_running_of_idle third)

/-- What an evaluation of the cut flag does beside the flag: nothing, or the closings of a cut that is set. -/
theorem State.evaluateCut_cases (c : Comp) :
    s.evaluateCut c = s
      ∨ s.evaluateCut c = (s.modStock c fun x => { x with cut := false }).raise .stockCut
      ∨ (s.stock.get c).cut = false ∧ (s.stock.get c).book ≤ s.cal.dead.get c
        ∧ s.evaluateCut c = (((s.modStock c fun x => { x with cut := true }).modPump c fun p =>
          { p with runOn := none }).closeForCut c).raise .stockCut := by
  by_cases low : (s.stock.get c).book ≤ s.cal.dead.get c <;> cases was : (s.stock.get c).cut
  case pos.false => exact .inr (.inr ⟨rfl, low, State.evaluateCut_of_low low was⟩)
  case neg.true => exact .inr (.inl (State.evaluateCut_of_high low was))
  case pos.true | neg.false => exact .inl (State.evaluateCut_of_agrees (by simp [low, was]))

theorem State.evaluateCut_frame (c : Comp) :
    s.evaluateCut c =
      { s with
        stock := (s.evaluateCut c).stock, slots := (s.evaluateCut c).slots, hoseCtl := (s.evaluateCut c).hoseCtl
        tracking := (s.evaluateCut c).tracking, pumps := (s.evaluateCut c).pumps
        ports := (s.evaluateCut c).ports } := by
  rcases State.evaluateCut_cases (s := s) c with e | e | ⟨-, -, e⟩
  · rw [e]
  · rw [e]; rfl
  · rw [e, State.closeForCut_frame]
    rfl

/-- Nothing but the flag changes in the stock records. -/
theorem State.evaluateCut_stock (c : Comp) :
    (s.evaluateCut c).stock = s.stock.set c
      { s.stock.get c with cut := decide ((s.stock.get c).book ≤ s.cal.dead.get c) } := by
  rw [← State.evaluateCut_cut]
  rcases State.evaluateCut_cases (s := s) c with e | e | ⟨-, -, e⟩
  · rw [e]
    cases c <;> rfl
  · rw [e]
    simp
  · rw [e]
    simp

theorem State.evaluateCut_pumps_ne (other : d ≠ c) : (s.evaluateCut c).pumps.get d = s.pumps.get d := by
  rcases State.evaluateCut_cases (s := s) c with e | e | ⟨-, -, e⟩
  · rw [e]
  · rw [e]; rfl
  · rw [e, State.raise_pumps, State.closeForCut_pumps_ne other]
    simp [other]

theorem State.evaluateCut_reserved (c : Comp) (k : Hose) :
    (s.evaluateCut c).reservedRemainder k = s.reservedRemainder k := by
  rcases State.evaluateCut_cases (s := s) c with e | e | ⟨-, -, e⟩
  · rw [e]
  · rw [e]; rfl
  · rw [e]
    exact (State.closeForCut_reserved c k).trans rfl

theorem FlagsStand.evaluateCut (s : State) (c : Comp) : FlagsStand s (s.evaluateCut c) := by
  rcases State.evaluateCut_cases (s := s) c with e | e | ⟨-, -, e⟩ <;> rw [e]
  · exact FlagsStand.refl s
  · exact FlagsStand.trans (FlagsStand.of_ports rfl) (FlagsStand.raise _ _)
  · have figures : FlagsStand s ((s.modStock c fun x => { x with cut := true }).modPump c fun p =>
        { p with runOn := none }) := FlagsStand.of_ports rfl
    exact figures.trans ((FlagsStand.closeForCut _ c).trans (FlagsStand.raise _ _))

/-- Where no cut is set, the slots with their hoses stand. -/
theorem State.evaluateCut_spares (spared : (s.stock.get c).cut = true ∨ ¬ (s.stock.get c).book ≤ s.cal.dead.get c) :
    (s.evaluateCut c).slots = s.slots ∧ (s.evaluateCut c).hoseCtl = s.hoseCtl
      ∧ (s.evaluateCut c).tracking = s.tracking := by
  rcases State.evaluateCut_cases (s := s) c with e | e | ⟨was, low, e⟩
  · rw [e]; exact ⟨rfl, rfl, rfl⟩
  · rw [e]; exact ⟨rfl, rfl, rfl⟩
  · exact (spared.elim (fun set => absurd (was.symm.trans set) nofun) fun high => absurd low high)

/-- On an idle compartment the cut touches stock and pump alone. -/
theorem State.evaluateCut_idle (idle : s.compIdle c = true) :
    s.evaluateCut c =
      { s with
        stock := (s.evaluateCut c).stock, pumps := (s.evaluateCut c).pumps, ports := (s.evaluateCut c).ports } := by
  rcases State.evaluateCut_cases (s := s) c with e | e | ⟨-, -, e⟩
  · rw [e]
  · rw [e]; rfl
  · rw [e, State.closeForCut_idle (by exact idle)]
    rfl

/-! ### The re-arm test (R129) -/

theorem State.rearmTest_frame (c : Comp) :
    s.rearmTest c = { s with stock := (s.rearmTest c).stock, ports := (s.rearmTest c).ports } := by
  unfold State.rearmTest
  split
  · rw [State.restockTest_frame]
    rfl
  · rfl

theorem State.rearmTest_stock_ne (other : d ≠ c) : (s.rearmTest c).stock.get d = s.stock.get d := by
  unfold State.rearmTest
  split
  · rw [State.restockTest_stock_ne other]
    simp [other]
  · rfl

theorem State.rearmTest_figures (c : Comp) :
    ((s.rearmTest c).stock.get c).book = (s.stock.get c).book
      ∧ ((s.rearmTest c).stock.get c).credited = (s.stock.get c).credited
      ∧ ((s.rearmTest c).stock.get c).adjusted = (s.stock.get c).adjusted
      ∧ ((s.rearmTest c).stock.get c).dispensed = (s.stock.get c).dispensed
      ∧ ((s.rearmTest c).stock.get c).cut = (s.stock.get c).cut := by
  unfold State.rearmTest
  split
  · obtain ⟨book, credited, adjusted, dispensed, cut⟩ :=
      (s.modStock c fun x => { x with armed := true }).restockTest_figures c
    rw [book, credited, adjusted, dispensed, cut]
    simp
  · exact ⟨rfl, rfl, rfl, rfl, rfl⟩

theorem FlagsStand.rearmTest (s : State) (c : Comp) : FlagsStand s (s.rearmTest c) := by
  unfold State.rearmTest
  exact FlagsStand.ite (fun _ => FlagsStand.trans (FlagsStand.of_ports rfl) (FlagsStand.restockTest _ c))
    fun _ => FlagsStand.refl s

/-! ### ADJUST_STOCK (R132, R133) -/

/-- The high mark follows an append (R156, R162). -/
theorem highMarkFollows_of_append {body : RecordBody} (journal : t.journal = (s.appendDirect body).journal)
    (flags : FlagsStand (s.appendDirect body) t) : highMarkFollows s t :=
  highMarkFollows_of_noteFree (u := s.pushRecord body false) rfl rfl journal flags

/-- The stock record after an adjustment. -/
def Stock.adjust (x : Stock) (delta : Int) : Stock :=
  { x with book := x.book + delta, adjusted := ((x.adjusted + delta) % counterModulus).toNat }

/-- The record of an adjustment (R133). -/
def State.adjustment (s : State) (c : Comp) (delta : Int) (reason : Byte) : RecordBody :=
  .adjustment ⟨c, delta, reason, (s.stock.get c).book + delta, s.clock.counter⟩

/-- An adjustment with its record, before its cut. -/
def State.adjustmentWritten (s : State) (c : Comp) (delta : Int) (reason : Byte) : State :=
  (s.modStock c fun x => x.adjust delta).appendDirect (s.adjustment c delta reason)

/-- An adjustment with its record and its cut, before the restock or re-arm test (R133). -/
def State.adjustedStock (s : State) (c : Comp) (delta : Int) (reason : Byte) : State :=
  (s.adjustmentWritten c delta reason).evaluateCut c

theorem State.adjustStock_eq (s : State) (c : Comp) (delta : Int) (reason : Byte) :
    s.adjustStock c delta reason =
      if delta < 0 then (s.adjustedStock c delta reason).restockTest c
      else (s.adjustedStock c delta reason).rearmTest c := by
  have book : ((s.modStock c fun x => x.adjust delta).stock.get c).book = (s.stock.get c).book + delta := by
    simp [Stock.adjust]
  unfold State.adjustedStock State.adjustmentWritten State.adjustment
  rw [← book]
  rfl

theorem State.adjustmentWritten_eq (s : State) (c : Comp) (delta : Int) (reason : Byte) :
    s.adjustmentWritten c delta reason =
      { s with
        stock := s.stock.set c ((s.stock.get c).adjust delta)
        journal := { s.journal with
          records := s.journal.records ++ [⟨s.journal.next, !s.clock.valid, s.adjustment c delta reason⟩]
          next := s.journal.next + 1
          highLatch := (s.adjustmentWritten c delta reason).journal.highLatch }
        ports := (s.adjustmentWritten c delta reason).ports } := by
  have written := State.appendDirect_eq (s := s.modStock c fun x => x.adjust delta) (body := s.adjustment c delta reason)
    rfl
  exact written

theorem State.adjustedStock_eq (s : State) (c : Comp) (delta : Int) (reason : Byte) :
    s.adjustedStock c delta reason =
      { s with
        stock := s.stock.set c
          { (s.stock.get c).adjust delta with cut := decide ((s.stock.get c).book + delta ≤ s.cal.dead.get c) }
        journal := { s.journal with
          records := s.journal.records ++
            [⟨s.journal.next, !s.clock.valid,
              .adjustment ⟨c, delta, reason, (s.stock.get c).book + delta, s.clock.counter⟩⟩]
          next := s.journal.next + 1
          highLatch := (s.adjustedStock c delta reason).journal.highLatch }
        slots := (s.adjustedStock c delta reason).slots, hoseCtl := (s.adjustedStock c delta reason).hoseCtl
        tracking := (s.adjustedStock c delta reason).tracking, pumps := (s.adjustedStock c delta reason).pumps
        ports := (s.adjustedStock c delta reason).ports } := by
  unfold State.adjustedStock
  rw [State.evaluateCut_frame, State.evaluateCut_stock, State.adjustmentWritten_eq]
  simp [Stock.adjust, State.adjustment]

/-- The restock or re-arm test that ends an adjustment leaves the figures. -/
theorem State.adjustStock_tested (s : State) (c : Comp) (delta : Int) (reason : Byte) :
    let z := s.adjustedStock c delta reason
    let y := s.adjustStock c delta reason
    y = { z with stock := y.stock, ports := y.ports }
      ∧ (y.stock.get c).book = (z.stock.get c).book ∧ (y.stock.get c).credited = (z.stock.get c).credited
      ∧ (y.stock.get c).adjusted = (z.stock.get c).adjusted
      ∧ (y.stock.get c).dispensed = (z.stock.get c).dispensed ∧ (y.stock.get c).cut = (z.stock.get c).cut
      ∧ (∀ d, d ≠ c → y.stock.get d = z.stock.get d) ∧ FlagsStand z y := by
  intro z y
  have branches : y = if delta < 0 then z.restockTest c else z.rearmTest c := State.adjustStock_eq s c delta reason
  obtain ⟨book, credited, adjusted, dispensed, cut⟩ := z.restockTest_figures c
  obtain ⟨book', credited', adjusted', dispensed', cut'⟩ := z.rearmTest_figures c
  split at branches <;> rw [branches]
  · exact ⟨z.restockTest_frame c, book, credited, adjusted, dispensed, cut,
      fun d other => State.restockTest_stock_ne other, FlagsStand.restockTest z c⟩
  · exact ⟨z.rearmTest_frame c, book', credited', adjusted', dispensed', cut',
      fun d other => State.rearmTest_stock_ne other, FlagsStand.rearmTest z c⟩

theorem State.deltaRefused_iff (s : State) (c : Comp) (delta : Int) :
    s.deltaRefused c delta = true
      ↔ delta = 0 ∨ 99999999 < delta.natAbs ∨ 2 ^ 39 < ((s.stock.get c).book + delta).natAbs := by
  unfold State.deltaRefused
  rw [Bool.or_eq_true, Bool.or_eq_true, beq_iff_eq, decide_eq_true_iff, decide_eq_true_iff, or_assoc]
  refine or_congr Iff.rfl (or_congr Iff.rfl ?_)
  simp only [bookLimit]
  omega

/-- Settles O38: the adjusted stock with its record, through the cut and the restock or re-arm test. -/
theorem adjustStockMovesBook : Obligations.AdjustStockMovesBook := by
  intro s b r k d takes named x
  have refused : s.deltaRefused k d.toInt = true
      ↔ d.toInt = 0 ∨ 99999999 < d.toInt.natAbs ∨ 2 ^ 39 < (x.book + d.toInt).natAbs := s.deltaRefused_iff k d.toInt
  refine ⟨fun out => ?_, fun nonzero small low full => ?_, fun nonzero small low room => ?_⟩
  · refine answers_of_owner (owner := ownAdjustStock b d r) rfl takes rfl ?_
    simp only [ownAdjustStock, named]
    exact if_pos (refused.mpr out)
  · refine answers_of_owner (owner := ownAdjustStock b d r) rfl takes rfl ?_
    simp only [ownAdjustStock, named]
    rw [if_neg (refused.not.mpr (by omega)), if_pos full]
    rfl
  · have own : ownAdjustStock b d r s = accepted (s.adjustStock k d.toInt r) := by
      simp only [ownAdjustStock, named]
      rw [if_neg (refused.not.mpr (by omega)), if_neg room.ne']
    have run := exec_of_owner (i := .adjustStock .office b d r) rfl takes rfl own
    obtain ⟨frame, book, credited, adjusted, dispensed, cut, others, tested⟩ := s.adjustStock_tested k d.toInt r
    have eq := s.adjustedStock_eq k d.toInt r
    have restocked (down : d.toInt < 0) : restockTested k s ((s.adjustStock k d.toInt r).answer .office ⟨.ok, []⟩) := by
      rw [State.adjustStock_eq, if_pos down]
      refine restockTested_of (w := s.adjustedStock k d.toInt r) ?_ (RestockStays.answer k _ .office ⟨.ok, []⟩ _)
      rw [eq]
      exact ⟨by simp [Stock.adjust], by simp [Stock.adjust], rfl, rfl, rfl⟩
    have spared (stays : x.cut = true ∨ ¬ x.book + d.toInt ≤ s.cal.dead.get k) :
        (s.adjustedStock k d.toInt r).slots = s.slots ∧ (s.adjustedStock k d.toInt r).hoseCtl = s.hoseCtl
          ∧ (s.adjustedStock k d.toInt r).tracking = s.tracking := by
      unfold State.adjustedStock
      obtain ⟨slots, hoseCtl, tracking⟩ := State.evaluateCut_spares (s := s.adjustmentWritten k d.toInt r) (c := k)
        (by rw [State.adjustmentWritten_eq]; simpa [Stock.adjust] using stays)
      rw [slots, hoseCtl, tracking, State.adjustmentWritten_eq]
      exact ⟨rfl, rfl, rfl⟩
    have marked : FlagsStand (s.adjustmentWritten k d.toInt r) (s.adjustStock k d.toInt r) :=
      (FlagsStand.evaluateCut _ k).trans tested
    have journal : (s.adjustedStock k d.toInt r).journal = (s.adjustmentWritten k d.toInt r).journal := by
      unfold State.adjustedStock
      rw [State.evaluateCut_frame]
    have high : highMarkFollows s ((s.adjustStock k d.toInt r).answer .office ⟨.ok, []⟩) := by
      refine highMarkFollows_of_append (s := s.modStock k fun x => x.adjust d.toInt) ?_
        (marked.trans (FlagsStand.answer _ .office _))
      rw [frame]
      exact journal
    rw [frame, eq] at run high restocked
    rw [eq] at book credited adjusted dispensed cut others spared
    simp only [Stock.adjust, PerComp.get_set_same] at book credited adjusted dispensed cut
    refine ⟨_, run.trans (State.finish_eq _), book, ?_, credited, dispensed, ?_, fun c other => ?_, rfl, rfl, high,
      restocked, rfl, rfl, spared⟩
    · refine (congrArg Int.ofNat adjusted).trans (Int.toNat_of_nonneg (Int.emod_nonneg _ (by decide))) 
    · exact (Bool.eq_iff_iff.mp cut).trans decide_eq_true_iff
    · exact (others c other).trans (PerComp.get_set_ne _ _ other)

end Sys2Proof.Machine
end

section
/-! The calibration writes: their lock, their judgement, and what an accepted one stores and records (R176 to R179,
R181). -/

namespace Sys2Proof.Machine

open Sys2Proof

variable {s t u w : State} {p : Port} {h k : Hose} {c d : Comp}

/-! ### The judgement (R176) -/

theorem State.unlocked_released {f : Answer} (released : s.switches.calEnable = false) :
    s.unlocked f = denied s .calLocked := if_neg (by simp [released])

theorem State.unlocked_enabled {f : Answer} (enabled : s.switches.calEnable = true) : s.unlocked f = f := if_pos enabled

/-- The checks of a calibration write in their order (R176). -/
theorem answers_of_calJudge {i : Instr} {owner : State → Answer} {range busy table : Bool} {act : State}
    {inRange idle good : Prop} (run : exec i s = (s.takeCommand .depot onDepot false owner).finish)
    (takes : s.takes .depot) (own : owner s = s.calJudge range busy table act) (ranges : range = true ↔ inRange)
    (idles : busy = false ↔ idle) (goods : table = true ↔ good) :
    (¬ inRange → answers i s [] .depot (statusOnly .outOfRange))
      ∧ (inRange → ¬ idle → answers i s [] .depot (statusOnly .busy))
      ∧ (inRange → idle → ¬ good → answers i s [] .depot (statusOnly .badTable))
      ∧ (inRange → idle → good → s.journal.free = 0 → answers i s [] .depot (statusOnly .journalFull)) := by
  refine ⟨fun wrong => ?_, fun right used => ?_, fun right unused bad => ?_, fun right unused fine full => ?_⟩
  all_goals refine answers_of_owner run takes rfl (own.trans ?_)
  all_goals unfold State.calJudge
  · rw [if_pos (by simp [Bool.eq_false_iff.mpr (ranges.not.mpr wrong)])]
    rfl
  · rw [if_neg (by simp [ranges.mpr right]), if_pos (by simpa using idles.not.mpr used)]
    rfl
  · rw [if_neg (by simp [ranges.mpr right]), if_neg (by simp [idles.mpr unused]),
      if_pos (by simp [Bool.eq_false_iff.mpr (goods.not.mpr bad)])]
    rfl
  · rw [if_neg (by simp [ranges.mpr right]), if_neg (by simp [idles.mpr unused]), if_neg (by simp [goods.mpr fine]),
      if_pos full]
    rfl

theorem State.calJudge_accepts {range busy table : Bool} {act : State} (right : range = true) (unused : busy = false)
    (fine : table = true) (room : 0 < s.journal.free) : s.calJudge range busy table act = accepted act := by
  unfold State.calJudge
  rw [if_neg (by simp [right]), if_neg (by simp [unused]), if_neg (by simp [fine]), if_neg room.ne']

/-! ### The write (R177) -/

/-- The record of a calibration write. -/
def State.calRecord (s : State) (target : CalTarget) (old new : CalSummary) : RecordBody :=
  .calibration ⟨target, old, new, s.cal.audit + 1, s.clock.counter⟩

theorem State.calWrite_flat (target : CalTarget) (old new : CalSummary) (store : Calibration → Calibration) :
    s.calWrite target old new store =
      { s with
        cal := { store s.cal with audit := s.cal.audit + 1 }
        journal := { s.journal with
          records := s.journal.records ++ [⟨s.journal.next, !s.clock.valid, s.calRecord target old new⟩]
          next := s.journal.next + 1
          highLatch := (s.calWrite target old new store).journal.highLatch }
        ports := (s.calWrite target old new store).ports } := by
  rw [State.calWrite_eq, State.appendDirect_eq (body := .calibration ⟨target, old, new, s.cal.audit + 1, s.clock.counter⟩)
    rfl]
  rfl

theorem FlagsStand.calWrite (target : CalTarget) (old new : CalSummary) (store : Calibration → Calibration) :
    FlagsStand (s.appendDirect (s.calRecord target old new)) (s.calWrite target old new store) := by
  rw [State.calWrite_eq]
  exact (FlagsStand.raise _ .calibration).trans (FlagsStand.of_ports rfl)

theorem State.calWrite_flag (normal : s.supply = .normal) (target : CalTarget) (old new : CalSummary)
    (store : Calibration → Calibration) :
    ((s.calWrite target old new store).ports.get .office).hasFlag .office .calibration = true := by
  rw [State.calWrite_eq]
  refine State.raise_hasFlag ?_ (by decide)
  rw [State.appendDirect_eq rfl]
  exact normal

/-- An accepted write whose later effects leave the store and the journal (R177). -/
theorem calWrites_of {i : Instr} {owner : State → Answer} {target : CalTarget} {old new : CalSummary} {cal : Calibration}
    (store : Calibration → Calibration) (run : exec i s = (s.takeCommand .depot onDepot false owner).finish)
    (takes : s.takes .depot) (own : owner s = accepted u) (stored : store s.cal = cal)
    (keeps : u.cal = (s.calWrite target old new store).cal)
    (journal : u.journal = (s.calWrite target old new store).journal)
    (flags : FlagsStand (s.calWrite target old new store) u) :
    calWrites i target old new cal s { u.answer .depot ⟨.ok, []⟩ with out := (u.answer .depot ⟨.ok, []⟩).outputs } := by
  have answered := flags.trans (FlagsStand.answer u .depot ⟨.ok, []⟩)
  have high : highMarkFollows s (u.answer .depot ⟨.ok, []⟩) := by
    refine highMarkFollows_of_append (body := s.calRecord target old new) (journal.trans ?_)
      ((FlagsStand.calWrite target old new store).trans answered)
    rw [State.calWrite_eq, State.modCal_journal, State.raise_journal]
    rfl
  refine ⟨(exec_of_owner run takes rfl own).trans (State.finish_eq _), ?_, ?_, high, rfl, ?_, ?_⟩
  · refine keeps.trans ?_
    rw [State.calWrite_flat, ← stored]
  · show u.journal = { s.journal with
      records := s.journal.records ++ [⟨s.journal.next, !s.clock.valid, s.calRecord target old new⟩]
      next := s.journal.next + 1, highLatch := u.journal.highLatch }
    rw [journal, State.calWrite_flat]
  · exact ((FlagsStand.calWrite target old new store).trans answered).hasFlag (State.appendDirect_flag takes.2)
  · exact answered.hasFlag (State.calWrite_flag takes.2 target old new store)

/-! ### The gauge state (R125) -/

/-- A gauge whose state has been re-evaluated. -/
def Gauge.reviewed (g : Gauge) (st : GaugeState) (since : Nat) (qualification : Timer) : Gauge :=
  if st = g.state then g
  else if st = .valid then { g with state := st, validSince := some since, validQualification := qualification }
  else if g.state = .valid then { g with state := st, validSince := none, validQualification := none }
  else { g with state := st }

theorem Gauge.reviewed_state (g : Gauge) (st : GaugeState) (since : Nat) (q : Timer) :
    (g.reviewed st since q).state = st := by
  unfold Gauge.reviewed
  split
  · next same => exact same.symm
  · split
    · rfl
    · split <;> rfl

theorem Gauge.reviewed_kept (g : Gauge) (st : GaugeState) (since : Nat) (q : Timer) :
    (g.reviewed st since q).latest = g.latest ∧ (g.reviewed st since q).absenceTimer = g.absenceTimer
      ∧ (g.reviewed st since q).history = g.history := by
  unfold Gauge.reviewed
  split
  · exact ⟨rfl, rfl, rfl⟩
  · split
    · exact ⟨rfl, rfl, rfl⟩
    · split <;> exact ⟨rfl, rfl, rfl⟩

theorem State.receiptGauge_frame (s : State) (c : Comp) (entered : Bool) :
    s.receiptGauge c entered = { s with receipts := (s.receiptGauge c entered).receipts } := by
  unfold State.receiptGauge
  split <;> rfl

theorem State.reviewGauge_eq (s : State) (c : Comp) :
    s.reviewGauge c =
      { s with
        gauge := s.gauge.set c
          ((s.gauge.get c).reviewed (s.gaugeStateOf c) s.clock.counter (some (s.now + 60000)))
        receipts := (s.reviewGauge c).receipts, ports := (s.reviewGauge c).ports } := by
  unfold State.reviewGauge Gauge.reviewed
  simp only
  split
  · cases c <;> rfl
  · split
    · rw [State.receiptGauge_frame]
      simp [State.modGauge, State.raise, State.timer]
    · split
      · rw [State.receiptGauge_frame]
        simp [State.modGauge, State.raise]
      · rfl

theorem State.gaugeStateOf_congr (gauge : (t.gauge.get c).latest = (s.gauge.get c).latest
      ∧ (t.gauge.get c).absenceTimer = (s.gauge.get c).absenceTimer ∧ (t.gauge.get c).history = (s.gauge.get c).history)
    (brake : t.switches.brakeReleased = s.switches.brakeReleased) (tilt : t.tiltBeyond = s.tiltBeyond) :
    t.gaugeStateOf c = s.gaugeStateOf c := by
  obtain ⟨latest, timer, history⟩ := gauge
  unfold State.gaugeStateOf
  rw [latest, timer, history, brake, tilt]

/-- After a review each gauge stands in the state its readings call for. -/
theorem State.reviewGauge_gaugeStateOf (s : State) (c d : Comp) : (s.reviewGauge c).gaugeStateOf d = s.gaugeStateOf d := by
  rw [State.reviewGauge_eq]
  refine State.gaugeStateOf_congr ?_ rfl rfl
  by_cases same : d = c
  · subst same
    simpa using Gauge.reviewed_kept _ _ _ _
  · simp [same]

theorem State.reviewGauge_state (s : State) (c : Comp) : ((s.reviewGauge c).gauge.get c).state = s.gaugeStateOf c := by
  rw [State.reviewGauge_eq]
  simp [Gauge.reviewed_state]

theorem State.reviewGauge_gauge_ne (other : d ≠ c) : (s.reviewGauge c).gauge.get d = s.gauge.get d := by
  rw [State.reviewGauge_eq]
  simp [other]

theorem State.reviewGauges_state (s : State) (c : Comp) :
    (s.reviewGauges.gauge.get c).state = s.reviewGauges.gaugeStateOf c := by
  unfold State.reviewGauges
  rw [State.reviewGauge_gaugeStateOf]
  cases c with
  | a =>
    rw [State.reviewGauge_gauge_ne (by decide), State.reviewGauge_gaugeStateOf]
    exact State.reviewGauge_state s .a
  | b => exact State.reviewGauge_state _ .b

theorem State.reviewGauges_frame (s : State) :
    s.reviewGauges =
      { s with gauge := s.reviewGauges.gauge, receipts := s.reviewGauges.receipts, ports := s.reviewGauges.ports } := by
  unfold State.reviewGauges
  rw [State.reviewGauge_eq, State.reviewGauge_eq]

theorem FlagsStand.reviewGauge (s : State) (c : Comp) : FlagsStand s (s.reviewGauge c) := by
  unfold State.reviewGauge
  refine FlagsStand.ite (fun _ => FlagsStand.refl s) fun _ => ?_
  refine FlagsStand.trans (FlagsStand.of_ports ?_) (FlagsStand.raise _ _)
  split
  · rw [State.receiptGauge_frame]
    rfl
  · split
    · rw [State.receiptGauge_frame]
      rfl
    · rfl

theorem FlagsStand.reviewGauges (s : State) : FlagsStand s s.reviewGauges :=
  (FlagsStand.reviewGauge s .a).trans (FlagsStand.reviewGauge _ .b)

/-! ### Every write -/

theorem State.compBusy_eq_false : s.compBusy c = false ↔ s.compIdle c = true ∧ (s.receipts.get c).state = .closed := by
  unfold State.compBusy
  rw [Bool.or_eq_false_iff, Bool.not_eq_false', bne_eq_false_iff_eq]

/-! What each write asks of the judgement, with CAL_ENABLE asserted and its target named. -/

theorem ownCalSetKq_named {b : Byte} {v : BitVec 16} (enabled : s.switches.calEnable = true) (named : hoseOf b = some h) :
    ownCalSetKq b v s = s.calJudge (200 ≤ v.toNat && v.toNat ≤ 20000) (s.slotState h != .idle) true
      ((s.calWrite (.kq h) (.value (s.cal.kq.get h)) (.value v.toNat) fun k =>
        { k with kq := k.kq.set h v.toNat }).modChan h fun c => c.refactor) := by
  unfold ownCalSetKq
  rw [State.unlocked_enabled enabled, named]

theorem ownCalSetAlpha_named {b : Byte} {v : BitVec 16} (enabled : s.switches.calEnable = true)
    (named : productOf b = some c) :
    ownCalSetAlpha b v s = s.calJudge (v.toNat ≤ 2000) (!s.compIdle c) true
      (s.calWrite (.alpha c) (.value (s.cal.alpha.get c)) (.value v.toNat) fun k =>
        { k with alpha := k.alpha.set c v.toNat }) := by
  unfold ownCalSetAlpha
  rw [State.unlocked_enabled enabled, named]

theorem ownCalSetDeadStock_named {b : Byte} {v : BitVec 32} (enabled : s.switches.calEnable = true)
    (named : compOf b = some c) :
    ownCalSetDeadStock b v s = s.calJudge (v.toNat ≤ maxVolume) (s.compBusy c) true
      ((s.calWrite (.deadStock c) (.value (s.cal.dead.get c)) (.value v.toNat) fun k =>
        { k with dead := k.dead.set c v.toNat }).deadStockWritten c (s.cal.dead.get c)) := by
  unfold ownCalSetDeadStock
  rw [State.unlocked_enabled enabled, named]

theorem ownCalSetHighHigh_named {b : Byte} {v : BitVec 16} (enabled : s.switches.calEnable = true)
    (named : compOf b = some c) :
    ownCalSetHighHigh b v s = s.calJudge (1 ≤ v.toNat) (s.compBusy c) true
      (s.calWrite (.highHigh c) (.value (s.cal.highHigh.get c)) (.value v.toNat) fun k =>
        { k with highHigh := k.highHigh.set c v.toNat }) := by
  unfold ownCalSetHighHigh
  rw [State.unlocked_enabled enabled, named]

theorem ownCalSetTilt_enabled {v : BitVec 16} (enabled : s.switches.calEnable = true) :
    ownCalSetTilt v s = s.calJudge (1 ≤ v.toNat && v.toNat ≤ 450) false true
      (s.calWrite .tiltLimit (.value s.cal.tiltLimit) (.value v.toNat) fun k =>
        { k with tiltLimit := v.toNat }).reviewGauges := State.unlocked_enabled enabled

theorem ownCalSetTolerance_enabled {v w : BitVec 32} (enabled : s.switches.calEnable = true) :
    ownCalSetTolerance v w s = s.calJudge (v.toNat ≤ maxVolume && w.toNat ≤ 1000000) false true
      (s.calWrite .varianceTolerance (.pair s.cal.tolAbsolute s.cal.tolPpm) (.pair v.toNat w.toNat) fun k =>
        { k with tolAbsolute := v.toNat, tolPpm := w.toNat }) := State.unlocked_enabled enabled

theorem ownCalStrapCommit_named {b : Byte} (enabled : s.switches.calEnable = true) (named : compOf b = some c) :
    ownCalStrapCommit b s = s.calJudge true (s.compBusy c) (s.commitOk c)
      (s.calWrite (.strapping c) (strapSummary (s.cal.strapping.get c)) (strapSummary (s.cal.stagedPoints c)) fun k =>
        { k with strapping := k.strapping.set c (k.stagedPoints c), staged := none }) := by
  unfold ownCalStrapCommit
  rw [State.unlocked_enabled enabled, named]

/-- A write whose target is not named is out of range (R176). -/
theorem answers_of_unnamed {i : Instr} {owner : State → Answer}
    (run : exec i s = (s.takeCommand .depot onDepot false owner).finish) (takes : s.takes .depot)
    (enabled : s.switches.calEnable = true) (own : owner s = s.unlocked (denied s .outOfRange)) :
    answers i s [] .depot (statusOnly .outOfRange) :=
  answers_of_owner run takes rfl (own.trans (State.unlocked_enabled enabled))

theorem State.calWrite_frame (s : State) (target : CalTarget) (old new : CalSummary) (store : Calibration → Calibration) :
    s.calWrite target old new store =
      { s with
        cal := (s.calWrite target old new store).cal, journal := (s.calWrite target old new store).journal
        ports := (s.calWrite target old new store).ports } := by
  rw [State.calWrite_flat]

/-- The answer to a write that ends in a review of the gauges. -/
theorem State.reviewed_frame {r : Response} {o : Outputs}
    (frame : u = { s with cal := u.cal, journal := u.journal, ports := u.ports })
    (e : t = { u.reviewGauges.answer p r with out := o }) :
    t = { s with
      cal := t.cal, journal := t.journal, gauge := t.gauge, receipts := t.receipts, ports := t.ports, out := t.out } := by
  rw [e, State.reviewGauges_frame, frame]
  rfl

theorem State.gaugeStateOf_answered (v : State) (p : Port) (r : Response) (o : Outputs) (c : Comp) :
    ({ v.answer p r with out := o } : State).gaugeStateOf c = v.gaugeStateOf c := rfl

theorem State.reviewed_state {r : Response} {o : Outputs} (c : Comp)
    (e : t = { u.reviewGauges.answer p r with out := o }) : (t.gauge.get c).state = t.gaugeStateOf c := by
  have reviewed := u.reviewGauges_state c
  rw [e, State.gaugeStateOf_answered]
  exact reviewed

/-- The consequences of a dead-stock write on an idle compartment (R179). -/
theorem State.deadStockWritten_eq {old : Nat} (idle : s.compIdle c = true) :
    s.deadStockWritten c old =
      { s with
        stock := (s.deadStockWritten c old).stock, pumps := (s.deadStockWritten c old).pumps
        ports := (s.deadStockWritten c old).ports } := by
  unfold State.deadStockWritten
  simp only
  split
  · rw [State.restockTest_frame, State.evaluateCut_idle idle]
  · exact State.evaluateCut_idle idle

theorem State.deadStockWritten_figures (s : State) (c : Comp) (old : Nat) :
    ((s.deadStockWritten c old).stock.get c).book = (s.stock.get c).book
      ∧ (((s.deadStockWritten c old).stock.get c).cut = true ↔ (s.stock.get c).book ≤ s.cal.dead.get c) := by
  have cut : ((s.evaluateCut c).stock.get c).cut = true ↔ (s.stock.get c).book ≤ s.cal.dead.get c := by
    rw [State.evaluateCut_cut, decide_eq_true_iff]
  have book : ((s.evaluateCut c).stock.get c).book = (s.stock.get c).book := by
    rw [State.evaluateCut_stock]
    simp
  obtain ⟨tested, -, -, -, flag⟩ := (s.evaluateCut c).restockTest_figures c
  unfold State.deadStockWritten
  simp only
  split
  · exact ⟨tested.trans book, flag ▸ cut⟩
  · exact ⟨book, cut⟩

theorem State.deadStockWritten_ne {old : Nat} (other : d ≠ c) :
    (s.deadStockWritten c old).stock.get d = s.stock.get d ∧ (s.deadStockWritten c old).pumps.get d = s.pumps.get d := by
  have stock : (s.evaluateCut c).stock.get d = s.stock.get d := by
    rw [State.evaluateCut_stock]
    exact PerComp.get_set_ne _ _ other
  have pumps := State.evaluateCut_pumps_ne (s := s) other
  unfold State.deadStockWritten
  simp only
  split
  · refine ⟨(State.restockTest_stock_ne other).trans stock, ?_⟩
    rw [State.restockTest_frame]
    exact pumps
  · exact ⟨stock, pumps⟩

theorem FlagsStand.deadStockWritten (s : State) (c : Comp) (old : Nat) : FlagsStand s (s.deadStockWritten c old) := by
  unfold State.deadStockWritten
  exact FlagsStand.ite (fun _ => (FlagsStand.evaluateCut s c).trans (FlagsStand.restockTest _ c))
    fun _ => FlagsStand.evaluateCut s c

/-- The answer to a dead-stock write. -/
theorem State.deadStockWritten_frame {old : Nat} {r : Response} {o : Outputs} (idle : u.compIdle c = true)
    (frame : u = { s with cal := u.cal, journal := u.journal, ports := u.ports })
    (e : t = { (u.deadStockWritten c old).answer p r with out := o }) :
    t = { s with
      cal := t.cal, journal := t.journal, stock := t.stock, pumps := t.pumps, ports := t.ports, out := t.out } := by
  rw [e, State.deadStockWritten_eq idle, frame]
  rfl

/-- Settles O43: the lock, the judgement of each write, and what each accepted one stores. -/
theorem calibrationWritesRecorded : Obligations.CalibrationWritesRecorded := by
  intro s takes
  refine ⟨fun released => ?locked, fun enabled => ?judged, fun enabled room => ?written⟩
  case locked =>
    refine ⟨fun b v => ?_, fun b v => ?_, fun b v => ?_, fun b v => ?_, fun v => ?_, fun v w => ?_, fun b => ?_⟩ <;>
      exact answers_of_owner rfl takes rfl (State.unlocked_released released)
  case judged =>
    intro unused judged
    have both (lo hi n : Nat) : (decide (lo ≤ n) && decide (n ≤ hi)) = true ↔ lo ≤ n ∧ n ≤ hi := by simp
    have never : false = false ↔ True := iff_of_true rfl trivial
    have always : true = true ↔ True := iff_of_true rfl trivial
    refine ⟨fun b v => ⟨fun unnamed => ?_, fun h named => ?_, fun unnamed => ?_, fun c named => ?_, fun unnamed => ?_,
      fun c named => ?_, ?_⟩, fun b v w => ⟨fun unnamed => ?_, fun c named => ?_, ?_⟩,
      fun b => ⟨fun unnamed => ?_, fun c named => ?_⟩⟩
    · exact answers_of_unnamed (owner := ownCalSetKq b v) rfl takes enabled (by unfold ownCalSetKq; rw [unnamed])
    · exact answers_of_calJudge (owner := ownCalSetKq b v) rfl takes (ownCalSetKq_named enabled named) (both ..)
        bne_eq_false_iff_eq always
    · exact answers_of_unnamed (owner := ownCalSetAlpha b v) rfl takes enabled (by unfold ownCalSetAlpha; rw [unnamed])
    · exact answers_of_calJudge (owner := ownCalSetAlpha b v) rfl takes (ownCalSetAlpha_named enabled named)
        decide_eq_true_iff (by rw [Bool.not_eq_false']) always
    · exact answers_of_unnamed (owner := ownCalSetHighHigh b v) rfl takes enabled (by unfold ownCalSetHighHigh; rw [unnamed])
    · exact answers_of_calJudge (owner := ownCalSetHighHigh b v) rfl takes (ownCalSetHighHigh_named enabled named)
        decide_eq_true_iff State.compBusy_eq_false always
    · exact answers_of_calJudge (owner := ownCalSetTilt v) rfl takes (ownCalSetTilt_enabled enabled) (both ..) never
        always
    · exact answers_of_unnamed (owner := ownCalSetDeadStock b v) rfl takes enabled (by unfold ownCalSetDeadStock; rw [unnamed])
    · exact answers_of_calJudge (owner := ownCalSetDeadStock b v) rfl takes (ownCalSetDeadStock_named enabled named)
        decide_eq_true_iff State.compBusy_eq_false always
    · exact answers_of_calJudge (owner := ownCalSetTolerance v w) rfl takes (ownCalSetTolerance_enabled enabled)
        (by rw [Bool.and_eq_true, decide_eq_true_iff, decide_eq_true_iff]; rfl) never always
    · exact answers_of_unnamed (owner := ownCalStrapCommit b) rfl takes enabled (by unfold ownCalStrapCommit; rw [unnamed])
    · exact answers_of_calJudge (owner := ownCalStrapCommit b) rfl takes (ownCalStrapCommit_named enabled named)
        always State.compBusy_eq_false (by simp [State.commitOk])
  case written =>
    refine ⟨fun b h v named idle low high => ?_, fun b c v named idle range => ?_, fun b c named idle closed => ?_,
      fun v low high => ?_, fun v w range range' => ?_⟩
    · have own := (ownCalSetKq_named (v := v) enabled named).trans
        (State.calJudge_accepts (by simp [low, high]) (by simpa using idle) rfl room)
      refine ⟨_, calWrites_of (owner := ownCalSetKq b v) _ rfl takes own rfl rfl rfl (FlagsStand.of_ports rfl), ?_, ?_⟩
      all_goals rw [State.calWrite_flat]
      all_goals rfl
    · have own := (ownCalSetAlpha_named (v := v) enabled named).trans
        (State.calJudge_accepts (by simp [range]) (by simp [idle]) rfl room)
      refine ⟨_, calWrites_of (owner := ownCalSetAlpha b v) _ rfl takes own rfl rfl rfl (FlagsStand.refl _), ?_⟩
      rw [State.calWrite_flat]
      rfl
    · have unused : s.compBusy c = false := State.compBusy_eq_false.mpr ⟨idle, closed⟩
      refine ⟨fun v range => ?_, fun v low => ?_, fun fine => ?_⟩
      · have own := (ownCalSetDeadStock_named (v := v) enabled named).trans
          (State.calJudge_accepts (decide_eq_true range) unused rfl room)
        have wrote := s.calWrite_frame (.deadStock c) (.value (s.cal.dead.get c)) (.value v.toNat) fun k =>
          { k with dead := k.dead.set c v.toNat }
        have idle' : (s.calWrite (.deadStock c) (.value (s.cal.dead.get c)) (.value v.toNat) fun k =>
          { k with dead := k.dead.set c v.toNat }).compIdle c = true := by rw [wrote]; exact idle
        refine ⟨_, calWrites_of (owner := ownCalSetDeadStock b v) _ rfl takes own rfl
          (by rw [State.deadStockWritten_eq idle']) (by rw [State.deadStockWritten_eq idle'])
          (FlagsStand.deadStockWritten _ c _), ?_, ?_, fun d other => ?_, ?_⟩
        · refine ((State.deadStockWritten_figures _ c _).2).trans ?_
          rw [wrote, State.calWrite_flat]
          simp
        · refine ((State.deadStockWritten_figures _ c _).1).trans ?_
          rw [wrote]
        · obtain ⟨stock, pumps⟩ := State.deadStockWritten_ne (s := s.calWrite (.deadStock c) (.value (s.cal.dead.get c))
            (.value v.toNat) fun k => { k with dead := k.dead.set c v.toNat }) (old := s.cal.dead.get c) other
          refine ⟨stock.trans ?_, pumps.trans ?_⟩ <;> rw [wrote]
        · exact State.deadStockWritten_frame idle' wrote rfl
      · have own := (ownCalSetHighHigh_named (v := v) enabled named).trans
          (State.calJudge_accepts (by simp [low]) unused rfl room)
        refine ⟨_, calWrites_of (owner := ownCalSetHighHigh b v) _ rfl takes own rfl rfl rfl (FlagsStand.refl _), ?_⟩
        rw [State.calWrite_flat]
        rfl
      · have own := (ownCalStrapCommit_named enabled named).trans (State.calJudge_accepts rfl unused fine room)
        refine ⟨_, calWrites_of (owner := ownCalStrapCommit b) _ rfl takes own rfl rfl rfl (FlagsStand.refl _), ?_⟩
        rw [State.calWrite_flat]
        rfl
    · have own := (ownCalSetTilt_enabled (v := v) enabled).trans
        (State.calJudge_accepts (by simp [low, high]) rfl rfl room)
      refine ⟨_, calWrites_of (owner := ownCalSetTilt v) _ rfl takes own rfl (by rw [State.reviewGauges_frame])
        (by rw [State.reviewGauges_frame]) (FlagsStand.reviewGauges _), fun c => ?_, ?_⟩
      · exact State.reviewed_state c rfl
      · exact State.reviewed_frame (s.calWrite_frame _ _ _ _) rfl
    · have own := (ownCalSetTolerance_enabled (v := v) (w := w) enabled).trans
        (State.calJudge_accepts (by simp [maxVolume, range, range']) rfl rfl room)
      refine ⟨_, calWrites_of (owner := ownCalSetTolerance v w) _ rfl takes own rfl rfl rfl (FlagsStand.refl _), ?_⟩
      rw [State.calWrite_flat]
      rfl

end Sys2Proof.Machine
end

section
/-! Product temperature, flow sense and the volume comparison, and the hoses' timers, nozzles and drives (R9 to R11,
R28 to R30, R36, R39, R42, R65, R109). -/

namespace Sys2Proof.Machine

open Sys2Proof

variable {s t u w : State} {p : Port} {h k : Hose} {c d : Comp}

/-! ### Product temperature (R9 to R11) -/

/-- A lost sample takes a VALID channel with a reading to HOLDING (R10). -/
theorem Channel.loseSample_held {x : Channel} {hold : Timer} (reading : x.tempState = .valid → x.lastTemp.isSome = true) :
    x.loseSample hold = if x.tempState = .valid then { x with tempState := .holding, holdTimer := hold } else x := by
  unfold Channel.loseSample
  split
  · next valid => rw [if_neg (by simpa using Option.isSome_iff_ne_none.mp (reading valid))]
  · rfl

theorem clampInt_eq {lo hi : Int} (ordered : lo ≤ hi) (v : Int) : clampInt lo hi v = max lo (min hi v) := by
  unfold clampInt
  split
  · omega
  · split <;> omega

/-- Settles O48. -/
theorem temperatureStates : Obligations.TemperatureStates := by
  intro s h v x held
  have absent (reading : x.tempState = .valid → x.lastTemp.isSome = true) (absence : Timer) :
      { (s.chan.get h).loseSample (s.timer 10000) with absenceTimer := absence } = { held with absenceTimer := absence } :=
    congrArg (fun y : Channel => { y with absenceTimer := absence }) (Channel.loseSample_held reading)
  refine ⟨?_, fun reading => ?_, fun reading running => ?_, fun holding running => ?_⟩
  · refine ⟨_, State.finish_eq _, ?_⟩
    simp only [State.modChan, if_true, Channel.validSample, clampInt_eq (show (-400 : Int) ≤ 600 by decide),
      Bool.decide_or]
    rfl
  · refine ⟨_, State.finish_eq _, ?_⟩
    simp only [State.modChan, Bool.false_eq_true, if_false, absent reading]
    rfl
  · refine ⟨_, (congrArg State.finish (if_pos running)).trans (State.finish_eq _), ?_⟩
    simp only [State.modChan, absent reading]
  · refine ⟨_, (congrArg State.finish (if_pos running)).trans (State.finish_eq _), ?_⟩
    simp only [State.modChan, show (s.chan.get h).tempState = .holding from holding, if_true]
    rfl

/-! ### Flow sense and the comparison (R28 to R30) -/

theorem State.senseFlow_third {a b : Nat} (ready : s.slotState h = .ready) (window : (s.hoseCtl.get h).flowWindow = [a, b])
    (soon : s.now ≤ a + 1000) :
    s.senseFlow h =
      { s with
        slots := s.slots.set h { s.slots.get h with state := .flowing }
        hoseCtl := s.hoseCtl.set h
          { s.hoseCtl.get h with
            flowWindow := [], flowStop := some (s.now + 3000), noFlow := some (s.now + 60000) }
        pumps := (s.senseFlow h).pumps
        ports := (s.raise (.hoseState h)).ports } := by
  have full : windowFull (pushTaking (s.hoseCtl.get h).flowWindow s.now) 1000 = true := by
    simpa [window, pushTaking, windowFull] using soon
  unfold State.senseFlow
  simp only [ready, SlotState.delivers, if_true, full]
  rw [State.setSlotState_active (by show s.slotState h ≠ .idle; rw [ready]; decide) (by decide)]
  simp [State.modHoseCtl, State.timer]
  rfl

/-- Settles O46. -/
theorem flowSenseAndComparison : Obligations.FlowSenseAndComparison := by
  refine ⟨fun s h a b ready window soon => ?_, fun s h delivers close => ?_, fun s h early far slow => ?_⟩
  · intro t
    have e : t = _ := State.senseFlow_third ready window soon
    rw [e]
    exact ⟨rfl, rfl, rfl, rfl⟩
  · intro t
    have e : t = s.enterClosing h .presetReached := by
      refine if_pos ?_
      simp [delivers, State.atCloseThreshold, close]
    have runs : (s.slotState h).running = true := by
      rcases SlotState.delivers_iff.mp delivers with e | e | e <;> rw [e] <;> rfl
    rw [e, State.enterClosing_eq _ runs]
    refine ⟨rfl, ?_, rfl⟩
    simp [HoseControl.settling, State.timer]
  · intro t
    have active : s.slotState h ≠ .idle := by rcases early with e | e <;> rw [e] <;> decide
    have e : t = s.enterSlowing h := by
      refine (if_neg ?_).trans (if_pos ?_)
      · simp [State.atCloseThreshold, far]
      · rcases early with e | e <;> simp [e, State.atSlowThreshold, slow]
    rw [e, State.enterSlowing_eq active]
    refine ⟨rfl, rfl, ?_, rfl⟩
    rw [State.outputs_main]
    simp [State.mainOpen, State.slotState]

/-! ### The hose timers (R29, R30, R36, R42, R65) -/

theorem State.outputs_closing (closing : s.slotState h = .closing) :
    s.outputs.main.get h = false ∧ s.outputs.slow.get h = false := by
  rw [State.outputs_main, State.outputs_slow]
  exact ⟨State.mainOpen_of_closing closing, State.slowOpen_of_closing closing⟩

/-- A closing at a timer's expiry, which has changed only what the closing clears (R32). -/
theorem State.enterClosing_expired {x : HoseControl} {y : Tracking} (cause : EndCause)
    (runs : (s.slotState h).running = true) (control : x.settling (s.timer 1500) = (s.hoseCtl.get h).settling (s.timer 1500))
    (tracked : { y with running := false, restoreWindow := none } =
      { s.tracking.get h with running := false, restoreWindow := none })
    (before : u = { s with hoseCtl := s.hoseCtl.set h x, tracking := s.tracking.set h y }) :
    u.enterClosing h cause =
      { s with
        slots := s.slots.set h { s.slots.get h with state := .closing, endCause := some cause }
        hoseCtl := s.hoseCtl.set h ((s.hoseCtl.get h).settling (s.timer 1500))
        tracking := s.tracking.set h { s.tracking.get h with running := false, restoreWindow := none }
        pumps := (u.enterClosing h cause).pumps
        ports := (s.raise (.hoseState h)).ports } := by
  have e := State.enterClosing_eq (s := u) cause (by rw [before]; exact runs)
  refine e.trans ?_
  rw [before]
  simp only [PerHose.get_set_same, PerHose.set_set, tracked]
  rw [← control]
  rfl

/-- What each of the three expiries that close a slot does before the closing. -/
theorem exec_closing_expiry {i : Instr} {cause : EndCause}
    (which : (i = .noFlowExpiry h ∧ cause = .noFlow ∧ (s.hoseCtl.get h).noFlow.isSome = true
        ∧ (s.slotState h).delivers = true)
      ∨ (i = .pauseTimerExpiry h ∧ cause = .pauseLimit ∧ (s.hoseCtl.get h).pause.isSome = true ∧ s.slotState h = .paused)
      ∨ (i = .tagRestoreExpiry h ∧ cause = .tagNotRestored ∧ (s.tracking.get h).restoreWindow.isSome = true
        ∧ (s.slots.get h).holds.tagLost = true ∧ s.slotState h = .paused)) :
    (s.slotState h).running = true ∧ ∃ u : State, exec i s = (u.enterClosing h cause).finish
      ∧ u.enterClosing h cause =
        { s with
          slots := s.slots.set h { s.slots.get h with state := .closing, endCause := some cause }
          hoseCtl := s.hoseCtl.set h ((s.hoseCtl.get h).settling (s.timer 1500))
          tracking := s.tracking.set h { s.tracking.get h with running := false, restoreWindow := none }
          pumps := (u.enterClosing h cause).pumps
          ports := (s.raise (.hoseState h)).ports } := by
  have tracking : s.tracking.set h (s.tracking.get h) = s.tracking := by cases h <;> rfl
  have hoseCtl : s.hoseCtl.set h (s.hoseCtl.get h) = s.hoseCtl := by cases h <;> rfl
  rcases which with ⟨rfl, rfl, due, delivers⟩ | ⟨rfl, rfl, due, paused⟩ | ⟨rfl, rfl, due, lost, paused⟩
  · have runs := SlotState.running_of_delivers delivers
    refine ⟨runs, _, congrArg State.finish ((if_pos due).trans (if_pos delivers)), ?_⟩
    refine State.enterClosing_expired (x := { s.hoseCtl.get h with noFlow := none }) (y := s.tracking.get h) .noFlow runs
      rfl rfl ?_
    rw [tracking]
    rfl
  · have runs : (s.slotState h).running = true := by rw [paused]; rfl
    refine ⟨runs, _, congrArg State.finish ((if_pos due).trans (if_pos paused)), ?_⟩
    refine State.enterClosing_expired (x := { s.hoseCtl.get h with pause := none }) (y := s.tracking.get h) .pauseLimit
      runs rfl rfl ?_
    rw [tracking]
    rfl
  · have runs : (s.slotState h).running = true := by rw [paused]; rfl
    refine ⟨runs, _, congrArg State.finish ((if_pos due).trans (if_pos (by simp [lost, paused]))), ?_⟩
    refine State.enterClosing_expired (x := s.hoseCtl.get h) (y := { s.tracking.get h with restoreWindow := none })
      .tagNotRestored runs rfl rfl ?_
    rw [hoseCtl]
    rfl

/-- Settles O52. -/
theorem hoseTimerExpiries : Obligations.HoseTimerExpiries := by
  intro s h
  refine ⟨fun due flowing => ?_, fun i cause which => ?_, fun c => ?_⟩
  · let u := s.modHoseCtl h fun c => { c with flowStop := none }
    have run : exec (.flowStopExpiry h) s = (u.flowStopped h).finish :=
      congrArg State.finish ((if_pos due).trans (if_pos flowing))
    have e : u.flowStopped h =
        { s with
          slots := s.slots.set h { s.slots.get h with state := .ready }
          hoseCtl := s.hoseCtl.set h
            { s.hoseCtl.get h with flowStop := none, flowWindow := [], leakWindow := [], leakArmed := true }
          pumps := (u.flowStopped h).pumps
          ports := (s.raise (.hoseState h)).ports } := by
      unfold State.flowStopped
      rw [State.setSlotState_active (by show s.slotState h ≠ .idle; rw [flowing]; decide) (by decide)]
      simp [u, State.modHoseCtl]
      rfl
    rw [e] at run
    have open_before : s.outputs.main.get h = !s.drivesForced (hoseComp h)
        ∧ s.outputs.slow.get h = !s.drivesForced (hoseComp h) := by
      rw [State.outputs_main, State.outputs_slow]
      simp [State.mainOpen, State.slowOpen, flowing, SlotState.delivers]
    have open_after (t : State) (ready : t.slotState h = .ready)
        (forced : t.drivesForced (hoseComp h) = s.drivesForced (hoseComp h)) :
        t.outputs.main.get h = !s.drivesForced (hoseComp h) ∧ t.outputs.slow.get h = !s.drivesForced (hoseComp h) := by
      rw [State.outputs_main, State.outputs_slow]
      simp [State.mainOpen, State.slowOpen, ready, SlotState.delivers, forced]
    obtain ⟨main, slow⟩ := open_after
      { s with
        slots := s.slots.set h { s.slots.get h with state := .ready }
        hoseCtl := s.hoseCtl.set h
          { s.hoseCtl.get h with flowStop := none, flowWindow := [], leakWindow := [], leakArmed := true }
        pumps := (u.flowStopped h).pumps
        ports := (s.raise (.hoseState h)).ports } (by simp [State.slotState]) rfl
    exact ⟨_, run.trans (State.finish_eq _), rfl, rfl, rfl, main.trans open_before.1.symm,
      slow.trans open_before.2.symm, main, slow, rfl⟩
  · obtain ⟨runs, u, run, e⟩ := exec_closing_expiry which
    rw [e] at run
    refine ⟨_, run.trans (State.finish_eq _), rfl, rfl, rfl, rfl, ?_, ?_, rfl⟩
    · exact (State.outputs_closing (by simp [State.slotState])).1
    · exact (State.outputs_closing (by simp [State.slotState])).2
  · refine ⟨_, State.finish_eq _, ?_, rfl⟩
    refine (Bool.eq_iff_iff.mp (State.outputs_pump c)).trans ?_
    simp [State.pumpRuns, State.drivesForced, State.isNormal, and_comm]

end Sys2Proof.Machine
end

section
/-! How a slot ends: the return to IDLE, the abandonment, a nozzle's return, the emergency stop and the slots' own
timers (R39, R40, R95, R96, R109, R146). -/

namespace Sys2Proof.Machine

open Sys2Proof

variable {s t u w : State} {p : Port} {h k : Hose} {c d : Comp}

/-! ### The return to IDLE and the abandonment (R109) -/

theorem State.toIdle_eq (s : State) (h : Hose) :
    s.toIdle h =
      { s with
        slots := s.slots.set h Slot.fresh, nozzleReader := s.nozzleReader.set h (s.nozzleReader.get h).powerOff
        pendingTag := s.pendingTag.set h false, tracking := s.tracking.set h Tracking.off
        chan := s.chan.set h (s.chan.get h).released, pumps := (s.toIdle h).pumps
        logoffTimer := (s.toIdle h).logoffTimer, ports := (s.toIdle h).ports } := by
  obtain ⟨pumps, logoff, ports, e⟩ := s.toIdle_frame h
  rw [e]

theorem FlagsStand.toIdle (s : State) (h : Hose) : FlagsStand s (s.toIdle h) := by
  unfold State.toIdle
  refine FlagsStand.trans ?_ (FlagsStand.setSlotState _ h .idle)
  exact FlagsStand.of_ports rfl

theorem sameOtherHoses.toIdle (s : State) (h : Hose) : sameOtherHoses h s (s.toIdle h) := by
  intro k other
  rw [State.toIdle_eq]
  simp [other]

/-- What an abandonment makes of the roster (R72, R80). -/
def State.forgotten (s : State) (h : Hose) : Roster :=
  (s.releaseEntry (s.slots.get h).entry).roster.leaveRequests h

theorem State.abandon_eq (waits : (s.slotState h).waiting = true) :
    s.abandon h =
      { s with
        slots := s.slots.set h Slot.fresh, nozzleReader := s.nozzleReader.set h (s.nozzleReader.get h).powerOff
        pendingTag := s.pendingTag.set h false, tracking := s.tracking.set h Tracking.off
        chan := s.chan.set h (s.chan.get h).released, roster := s.forgotten h
        pumps := (s.abandon h).pumps, logoffTimer := (s.abandon h).logoffTimer, ports := (s.abandon h).ports } := by
  have e : s.abandon h = ((s.releaseEntry (s.slots.get h).entry).modRoster fun r => r.leaveRequests h).toIdle h :=
    if_pos waits
  rw [e, State.toIdle_eq, State.releaseEntry_frame]
  simp only [State.modRoster, State.forgotten]
  rw [State.releaseEntry_frame]

theorem State.abandon_rests (busy : (s.slotState h).waiting = false) : s.abandon h = s :=
  if_neg (by simp [busy])

theorem FlagsStand.abandon (s : State) (h : Hose) : FlagsStand s (s.abandon h) := by
  unfold State.abandon
  refine FlagsStand.ite (fun _ => FlagsStand.trans (FlagsStand.of_ports ?_) (FlagsStand.toIdle _ h))
    fun _ => FlagsStand.refl s
  rw [State.releaseEntry_frame]
  rfl

theorem sameOtherHoses.abandon (s : State) (h : Hose) : sameOtherHoses h s (s.abandon h) := by
  cases waits : (s.slotState h).waiting with
  | true =>
    intro k other
    rw [State.abandon_eq waits]
    simp [other]
  | false =>
    rw [State.abandon_rests waits]
    exact sameOtherHoses.refl h s

/-- No request waits for a slot that has been abandoned (R80, R109). -/
theorem State.forgotten_waiters (s : State) (h : Hose) : ∀ q ∈ (s.forgotten h).requests, q.waiters.get h = false := by
  intro q mem
  obtain ⟨before, -, rfl⟩ := List.mem_map.mp mem
  simp

/-! ### Nozzles (R39, R51, R95) -/

theorem State.outputs_coil (h : Hose) : s.outputs.coil.get h = s.coilOn h := by cases h <;> rfl

theorem State.outputs_coil_off (off : (s.nozzleReader.get h).link = .off) : s.outputs.coil.get h = false := by
  rw [State.outputs_coil]
  simp [State.coilOn, off]

/-- A lift that opens its slot (R39, R51, R95). -/
theorem State.takeLift_eq (armed : (s.hoseCtl.get h).liftArmed = true) (idle : s.slotState h = .idle) :
    s.takeLift h =
      { s with
        slots := s.slots.set h { Slot.fresh with state := .ident, identTimer := some (s.now + 120000) }
        hoseCtl := s.hoseCtl.set h { s.hoseCtl.get h with liftArmed := false }
        nozzleReader := s.nozzleReader.set h
          { s.nozzleReader.get h with
            link := .qualifying, stableTimer := some (s.now + 250), qualifyLimit := some (s.now + 1000)
            retryTimer := none, pollTimer := none, held := none, misses := 0, fetchLeft := 0
            fetchUnanswered := 0 }
        pumps := (s.takeLift h).pumps
        logoffTimer := none
        ports := (s.raise (.hoseState h)).ports } := by
  have e : s.takeLift h =
      ((s.modHoseCtl h fun c => { c with liftArmed := false }).startQualifying (.nr h)).openSlot h :=
    if_pos (by simp [armed, idle])
  rw [e]
  unfold State.openSlot
  rw [State.setSlotState_from_idle (by simp [State.slotState, Slot.fresh]) (by decide)]
  simp [State.startQualifying, State.modReader, State.modSlot, State.modHoseCtl, ReaderState.dropTag, State.timer]
  rfl

/-- What ends a slot at once, by its state (R39, R40). -/
theorem State.endSlot_running (cause : EndCause) (runs : (s.slotState h).running = true) :
    s.endSlot h cause = s.enterClosing h cause := by
  refine State.abandon_rests ?_
  rw [State.enterClosing_slotState cause runs]
  rfl

theorem State.endSlot_stopped (cause : EndCause) (stopped : (s.slotState h).running = false) :
    s.endSlot h cause = s.abandon h := by
  unfold State.endSlot
  rw [State.enterClosing_idle s cause stopped]

theorem SlotState.not_running_of_waiting {st : SlotState} (waits : st.waiting = true) : st.running = false := by
  cases st <;> first | rfl | cases waits

/-- A lift that opens nothing (R39). -/
theorem State.takeLift_rests (others : (s.hoseCtl.get h).liftArmed = false ∨ s.slotState h ≠ .idle) : s.takeLift h = s :=
  if_neg (by rcases others with e | e <;> simp [e])

/-- Settles O49. -/
theorem nozzleEvents : Obligations.NozzleEvents := by
  intro s h
  refine ⟨fun inBoot => ?lift, fun lifted => ?back⟩
  case lift =>
    intro moved
    let u : State := { s with switches := moved }
    have awake (normal : s.supply = .normal) : exec (.nozzleLift h) s = (u.takeLift h).finish :=
      congrArg State.finish ((if_neg (by simp [inBoot])).trans (if_pos (by simpa [State.isNormal] using normal)))
    refine ⟨fun normal armed idle => ?_, fun others => ?_⟩
    · have run := awake normal
      rw [State.takeLift_eq (s := u) armed idle] at run
      refine ⟨_, run.trans (State.finish_eq _), rfl, rfl, rfl, ?_, rfl, rfl, rfl⟩
      refine (State.outputs_coil h).trans ?_
      simp [State.coilOn]
    · have run : exec (.nozzleLift h) s = u.finish := by
        cases supply : s.supply with
        | normal =>
          have rests : u.takeLift h = u := State.takeLift_rests (others.resolve_left (by simp [supply]))
          rw [awake supply, rests]
        | saved => exact congrArg State.finish ((if_neg (by simp [inBoot])).trans (if_neg (by simp [State.isNormal, supply])))
      exact ⟨_, run.trans (State.finish_eq _), rfl⟩
  case back =>
    intro moved
    let u : State :=
      { s with switches := moved, hoseCtl := s.hoseCtl.set h { s.hoseCtl.get h with liftArmed := true } }
    have awake (normal : s.supply = .normal) : exec (.nozzleReturn h) s =
        (if (s.slotState h).waiting then (u.endSlot h .nozzleReturned).checkVariance (hoseComp h)
          else u.endSlot h .nozzleReturned).finish :=
      congrArg State.finish ((if_neg (by simp [lifted])).trans (if_pos (by simpa [State.isNormal] using normal)))
    refine ⟨fun saved => ?_, fun normal quiet => ?_, fun normal runs => ?_, fun normal waits => ?_⟩
    · have run : exec (.nozzleReturn h) s = ({ s with switches := moved } : State).finish :=
        congrArg State.finish ((if_neg (by simp [lifted])).trans (if_neg (by simp [State.isNormal, saved])))
      exact ⟨_, run.trans (State.finish_eq _), rfl⟩
    · have stopped : (s.slotState h).running = false := by rcases quiet with e | e <;> rw [e] <;> rfl
      have awaited : (s.slotState h).waiting = false := by rcases quiet with e | e <;> rw [e] <;> rfl
      have run := awake normal
      rw [if_neg (by simp [awaited]), State.endSlot_stopped (s := u) _ stopped, State.abandon_rests (s := u) awaited] at run
      exact ⟨_, run.trans (State.finish_eq _), rfl⟩
    · have awaited : (s.slotState h).waiting = false := by
        cases waits : (s.slotState h).waiting with
        | false => rfl
        | true => exact absurd runs (by simp [SlotState.not_running_of_waiting waits])
      have run := awake normal
      rw [if_neg (by simp [awaited]), State.endSlot_running (s := u) _ runs, State.enterClosing_eq (s := u) _ runs] at run
      refine ⟨_, run.trans (State.finish_eq _), rfl, ?_, rfl, ?_, ?_, rfl⟩
      · simp [u, HoseControl.settling, State.timer]
      · exact (State.outputs_closing (by simp [State.slotState])).1
      · exact (State.outputs_closing (by simp [State.slotState])).2
    · have run := awake normal
      rw [if_pos waits, State.endSlot_stopped (s := u) _ (SlotState.not_running_of_waiting waits),
        State.checkVariance_frame, State.abandon_eq (s := u) waits] at run
      refine ⟨_, run.trans (State.finish_eq _), rfl, rfl, ?_, ?_, State.outputs_coil_off ?_, u.forgotten_waiters h,
        fun k other => ⟨?_, ?_⟩, rfl⟩
      · simp [ReaderState.powerOff, ReaderState.off]
      · simp
      · simp [ReaderState.powerOff, ReaderState.off]
      · simp [u, other]
      · simp [u, other]

/-! ### The emergency stop (R40, R146) -/

theorem FlagsStand.endSlot (s : State) (h : Hose) (cause : EndCause) : FlagsStand s (s.endSlot h cause) :=
  (FlagsStand.enterClosing s h cause).trans (FlagsStand.abandon _ h)

theorem sameOtherHoses.endSlot (s : State) (h : Hose) (cause : EndCause) : sameOtherHoses h s (s.endSlot h cause) :=
  (sameOtherHoses.enterClosing s h cause).trans (sameOtherHoses.abandon _ h)

theorem State.abandon_frame (s : State) (h : Hose) :
    s.abandon h =
      { s with
        slots := (s.abandon h).slots, nozzleReader := (s.abandon h).nozzleReader
        pendingTag := (s.abandon h).pendingTag, tracking := (s.abandon h).tracking, chan := (s.abandon h).chan
        roster := (s.abandon h).roster, pumps := (s.abandon h).pumps, logoffTimer := (s.abandon h).logoffTimer
        ports := (s.abandon h).ports } := by
  cases waits : (s.slotState h).waiting with
  | true => rw [State.abandon_eq waits]
  | false => rw [State.abandon_rests waits]

theorem State.endSlot_frame (s : State) (h : Hose) (cause : EndCause) :
    s.endSlot h cause =
      { s with
        slots := (s.endSlot h cause).slots, hoseCtl := (s.endSlot h cause).hoseCtl
        nozzleReader := (s.endSlot h cause).nozzleReader, pendingTag := (s.endSlot h cause).pendingTag
        tracking := (s.endSlot h cause).tracking, chan := (s.endSlot h cause).chan
        roster := (s.endSlot h cause).roster, pumps := (s.endSlot h cause).pumps
        logoffTimer := (s.endSlot h cause).logoffTimer, ports := (s.endSlot h cause).ports } := by
  cases runs : (s.slotState h).running with
  | true => rw [State.endSlot_running cause runs, State.enterClosing_frame_eq]
  | false => rw [State.endSlot_stopped cause runs, State.abandon_frame]

/-- A slot that an end reaches (R39, R40). -/
def Slot.ended (x : Slot) (cause : EndCause) : Slot :=
  if x.state.running = true then { x with state := .closing, endCause := some cause }
  else if x.state.waiting = true then Slot.fresh else x

theorem State.endSlot_slot (s : State) (h : Hose) (cause : EndCause) :
    (s.endSlot h cause).slots.get h = (s.slots.get h).ended cause := by
  unfold Slot.ended
  cases runs : (s.slotState h).running with
  | true =>
    rw [State.endSlot_running cause runs, State.enterClosing_eq cause runs, PerHose.get_set_same]
    exact (if_pos runs).symm
  | false =>
    have stopped : ¬ (s.slots.get h).state.running = true := Bool.eq_false_iff.mp runs
    rw [State.endSlot_stopped cause runs, if_neg stopped]
    cases waits : (s.slotState h).waiting with
    | true =>
      rw [State.abandon_eq waits, PerHose.get_set_same]
      exact (if_pos waits).symm
    | false =>
      have passed : ¬ (s.slots.get h).state.waiting = true := Bool.eq_false_iff.mp waits
      rw [State.abandon_rests waits, if_neg passed]

theorem State.endSlot_settle (cause : EndCause) (runs : (s.slotState h).running = true) :
    ((s.endSlot h cause).hoseCtl.get h).settle = some (s.now + 1500) := by
  rw [State.endSlot_running cause runs, State.enterClosing_eq cause runs]
  simp [HoseControl.settling, State.timer]

/-- The emergency stop is asserted and no pump runs on. -/
def State.halted (s : State) : Prop := s.switches.estop = true ∧ ∀ c, (s.pumps.get c).runOn = none

theorem State.halted.of_same (f : s.halted) (switches : t.switches = s.switches) (pumps : t.pumps = s.pumps) :
    t.halted := by
  unfold State.halted
  rw [switches, pumps]
  exact f

theorem State.recounted_runOn {st : SlotState} (f : s.halted) (c : Comp) : ((s.recounted h st).get c).runOn = none := by
  by_cases same : c = hoseComp h
  · subst same
    simp [State.recounted, State.recountDemand, State.drivesForced, f.1, f.2]
  · rw [State.recounted_ne same]
    exact f.2 c

theorem State.halted.setSlotState (f : s.halted) (h : Hose) (st : SlotState) : (s.setSlotState h st).halted := by
  rw [State.setSlotState_eq]
  exact ⟨f.1, State.recounted_runOn f⟩

theorem State.halted.enterClosing (f : s.halted) (h : Hose) (cause : EndCause) : (s.enterClosing h cause).halted := by
  unfold State.enterClosing
  split
  · exact State.halted.setSlotState (by exact f.of_same rfl rfl) h .closing
  · exact f

theorem State.halted.toIdle (f : s.halted) (h : Hose) : (s.toIdle h).halted := by
  unfold State.toIdle
  apply State.halted.setSlotState
  exact f

theorem State.halted.abandon (f : s.halted) (h : Hose) : (s.abandon h).halted := by
  unfold State.abandon
  split
  · rw [State.releaseEntry_frame]
    apply State.halted.toIdle
    exact f
  · exact f

theorem State.halted.endSlot (f : s.halted) (h : Hose) (cause : EndCause) : (s.endSlot h cause).halted :=
  (f.enterClosing h cause).abandon h

/-- With the emergency stop asserted no valve, pump or inlet is driven (R27, R43, R140). -/
theorem State.outputs_estop (estop : s.switches.estop = true) :
    s.outputs.main = PerHose.all false ∧ s.outputs.slow = PerHose.all false ∧ s.outputs.pump = PerComp.all false
      ∧ s.outputs.inlet = PerComp.all false := by
  have drives (c : Comp) : s.drivesForced c = true := by simp [State.drivesForced, estop]
  have inlets (c : Comp) : s.inletForced c = true := by simp [State.inletForced, estop]
  simp [State.outputs, State.mainOpen, State.slowOpen, State.pumpRuns, State.inletOpen, drives, inlets, PerHose.all,
    PerComp.all]

/-- A fill that the emergency stop ends (R146). -/
def State.stoppedFill (s : State) (c : Comp) : Receipt :=
  if (s.receipts.get c).state = .filling then
    { s.receipts.get c with aborted := true }.ended s.clock.counter (some (s.now + 900000)) (s.qualificationNow c 120000)
  else s.receipts.get c

theorem State.stopFill_eq (s : State) (c : Comp) :
    s.stopFill c =
      { s with receipts := s.receipts.set c (s.stoppedFill c), ports := (s.stopFill c).ports } := by
  unfold State.stopFill State.stoppedFill
  split
  · rw [State.abortFill, State.modReceipt_endFill]
  · cases c <;> rfl

theorem FlagsStand.stopFill (s : State) (c : Comp) : FlagsStand s (s.stopFill c) := by
  unfold State.stopFill
  refine FlagsStand.ite (fun _ => ?_) fun _ => FlagsStand.refl s
  rw [State.abortFill, State.modReceipt_endFill]
  exact FlagsStand.raise s (.receiptState c)

theorem State.checkVariances_frame (s : State) :
    s.checkVariances = { s with gauge := s.checkVariances.gauge, ports := s.checkVariances.ports } := by
  unfold State.checkVariances
  rw [State.checkVariance_frame, State.checkVariance_frame]

theorem FlagsStand.checkVariances (s : State) : FlagsStand s s.checkVariances :=
  (FlagsStand.checkVariance s .a).trans (FlagsStand.checkVariance _ .b)

/-- The slots' part of the emergency stop. -/
def State.slotsStopped (s : State) : State := ((s.endSlot .h1 .estop).endSlot .h2 .estop).endSlot .h3 .estop

/-- The pumps' part of the emergency stop. -/
def State.pumpsStopped (s : State) : State :=
  (s.modPump .a fun p => { p with runOn := none }).modPump .b fun p => { p with runOn := none }

theorem State.stopAll_eq (s : State) :
    s.stopAll = ((s.pumpsStopped.slotsStopped.stopFill .a).stopFill .b).checkVariances := rfl

theorem State.slotsStopped_frame (s : State) :
    s.slotsStopped =
      { s with
        slots := s.slotsStopped.slots, hoseCtl := s.slotsStopped.hoseCtl, nozzleReader := s.slotsStopped.nozzleReader
        pendingTag := s.slotsStopped.pendingTag, tracking := s.slotsStopped.tracking, chan := s.slotsStopped.chan
        roster := s.slotsStopped.roster, pumps := s.slotsStopped.pumps, logoffTimer := s.slotsStopped.logoffTimer
        ports := s.slotsStopped.ports } := by
  unfold State.slotsStopped
  rw [State.endSlot_frame, State.endSlot_frame _ .h2, State.endSlot_frame _ .h1]

theorem State.endSlot_now (s : State) (h : Hose) (cause : EndCause) : (s.endSlot h cause).now = s.now := by
  rw [State.endSlot_frame]

/-- Everything kept per hose stands at `h`. -/
def sameHose (h : Hose) (s t : State) : Prop :=
  t.slots.get h = s.slots.get h ∧ t.chan.get h = s.chan.get h ∧ t.hoseCtl.get h = s.hoseCtl.get h
    ∧ t.tracking.get h = s.tracking.get h ∧ t.nozzleReader.get h = s.nozzleReader.get h
    ∧ t.pendingTag.get h = s.pendingTag.get h

theorem sameHose.trans (f : sameHose h s t) (g : sameHose h t u) : sameHose h s u := by
  obtain ⟨slots, chan, hoseCtl, tracking, reader, tag⟩ := f
  obtain ⟨slots', chan', hoseCtl', tracking', reader', tag'⟩ := g
  exact ⟨slots'.trans slots, chan'.trans chan, hoseCtl'.trans hoseCtl, tracking'.trans tracking, reader'.trans reader,
    tag'.trans tag⟩

theorem sameHose.refl (h : Hose) (s : State) : sameHose h s s := ⟨rfl, rfl, rfl, rfl, rfl, rfl⟩

/-- Where a step acts on the three hoses in turn, each on its own, a hose stands at its turn as it stood at first, and
after the three as its turn left it. -/
theorem each_hose_turn {f : State → Hose → State} {P : State → Prop} (others : ∀ s h, sameOtherHoses h s (f s h))
    (init : P s) (kept : ∀ t h, P t → P (f t h)) (h : Hose) :
    ∃ u, P u ∧ sameHose h s u ∧ sameHose h (f u h) (f (f (f s .h1) .h2) .h3) := by
  have first : sameOtherHoses .h1 s (f s .h1) := others _ _
  have second : sameOtherHoses .h2 (f s .h1) (f (f s .h1) .h2) := others _ _
  have third : sameOtherHoses .h3 (f (f s .h1) .h2) (f (f (f s .h1) .h2) .h3) := others _ _
  cases h with
  | h1 => exact ⟨s, init, sameHose.refl _ _, sameHose.trans (second .h1 (by decide)) (third .h1 (by decide))⟩
  | h2 => exact ⟨_, kept _ _ init, first .h2 (by decide), third .h2 (by decide)⟩
  | h3 =>
    exact ⟨_, kept _ _ (kept _ _ init), sameHose.trans (first .h3 (by decide)) (second .h3 (by decide)),
      sameHose.refl _ _⟩

/-- Each hose of the three is ended as it stood before. -/
theorem State.slotsStopped_hose (s : State) (h : Hose) :
    s.slotsStopped.slots.get h = (s.slots.get h).ended .estop
      ∧ ((s.slotState h).running = true → (s.slotsStopped.hoseCtl.get h).settle = some (s.now + 1500)) := by
  obtain ⟨u, now, ⟨before, -⟩, ⟨slots, -, hoseCtl, -⟩⟩ :=
    each_hose_turn (f := fun t k => t.endSlot k .estop) (P := fun t => t.now = s.now)
      (fun t k => sameOtherHoses.endSlot t k .estop) rfl (fun t k e => (t.endSlot_now k .estop).trans e) h
  refine ⟨(slots.trans (u.endSlot_slot h .estop)).trans (by rw [before]), fun runs => ?_⟩
  refine (congrArg HoseControl.settle hoseCtl).trans ?_
  rw [State.endSlot_settle .estop (by rw [State.slotState, before]; exact runs), now]

theorem State.stoppedFill_congr (receipts : t.receipts = s.receipts) (gauge : t.gauge = s.gauge)
    (clock : t.clock = s.clock) (now : t.now = s.now) (c : Comp) : t.stoppedFill c = s.stoppedFill c := by
  simp [State.stoppedFill, State.qualificationNow_eq, receipts, gauge, clock, now]

theorem State.slotsStopped_stoppedFill (s : State) (c : Comp) : s.slotsStopped.stoppedFill c = s.stoppedFill c := by
  apply State.stoppedFill_congr <;> rw [State.slotsStopped_frame]

theorem State.stopFills_receipts (s : State) (c : Comp) :
    ((s.stopFill .a).stopFill .b).receipts.get c = s.stoppedFill c := by
  rw [State.stopFill_eq (s.stopFill .a) .b, State.stopFill_eq s .a]
  cases c <;> simp [State.stoppedFill, State.qualificationNow_eq]

theorem State.stopFills_frame (s : State) :
    (s.stopFill .a).stopFill .b =
      { s with receipts := ((s.stopFill .a).stopFill .b).receipts, ports := ((s.stopFill .a).stopFill .b).ports } := by
  rw [State.stopFill_eq (s.stopFill .a) .b, State.stopFill_eq s .a]

/-- The emergency stop, flattened over its slots' part. -/
theorem State.stopAll_frame (s : State) :
    s.stopAll =
      { s.pumpsStopped.slotsStopped with
        receipts := s.stopAll.receipts, gauge := s.stopAll.gauge, ports := s.stopAll.ports } := by
  rw [State.stopAll_eq, State.checkVariances_frame, State.stopFills_frame]

theorem State.stopAll_receipts (s : State) (c : Comp) : s.stopAll.receipts.get c = s.stoppedFill c := by
  rw [State.stopAll_eq, State.checkVariances_frame, State.stopFills_receipts, State.slotsStopped_stoppedFill]
  exact State.stoppedFill_congr rfl rfl rfl rfl c

theorem FlagsStand.stopAll (s : State) : FlagsStand s s.stopAll := by
  rw [State.stopAll_eq]
  refine FlagsStand.trans ?_ (FlagsStand.checkVariances _)
  refine FlagsStand.trans (FlagsStand.trans ?_ (FlagsStand.stopFill _ .a)) (FlagsStand.stopFill _ .b)
  refine FlagsStand.trans (FlagsStand.of_ports ?_) ((FlagsStand.endSlot _ .h1 .estop).trans
    ((FlagsStand.endSlot _ .h2 .estop).trans (FlagsStand.endSlot _ .h3 .estop)))
  rfl

theorem State.pumpsStopped_halted (estop : s.switches.estop = true) : s.pumpsStopped.halted :=
  ⟨estop, fun c => by cases c <;> rfl⟩

theorem State.stopAll_halted (estop : s.switches.estop = true) : s.stopAll.halted := by
  have slots : s.pumpsStopped.slotsStopped.halted :=
    (((State.pumpsStopped_halted estop).endSlot .h1 .estop).endSlot .h2 .estop).endSlot .h3 .estop
  apply slots.of_same <;> rw [State.stopAll_frame]

/-- Settles O50, by the parts of the stop: the pumps, the three slots, the two fills and the variance checks. -/
theorem emergencyStop : Obligations.EmergencyStop := by
  refine ⟨fun s released => ⟨fun normal => ?_, fun saved => ?_⟩, fun s asserted => ?_⟩
  · let u : State := (s.setEstop true).raise .estop
    have run : exec .estopAssert s = u.stopAll.finish :=
      congrArg State.finish ((if_neg (by simp [released])).trans (if_pos (by simpa [State.isNormal] using normal)))
    have halted : u.stopAll.halted := State.stopAll_halted rfl
    have flag : (u.stopAll.ports.get .panel).hasFlag .panel .estop = true :=
      (FlagsStand.stopAll u).hasFlag (State.raise_hasFlag normal (by decide))
    have slots (h : Hose) : u.stopAll.slots.get h = (s.slots.get h).ended .estop := by
      rw [State.stopAll_frame]
      exact (u.pumpsStopped.slotsStopped_hose h).1
    have settles (h : Hose) (runs : (s.slotState h).running = true) :
        (u.stopAll.hoseCtl.get h).settle = some (s.now + 1500) := by
      rw [State.stopAll_frame]
      exact (u.pumpsStopped.slotsStopped_hose h).2 runs
    have fills (c : Comp) : u.stopAll.receipts.get c = s.stoppedFill c :=
      (u.stopAll_receipts c).trans (State.stoppedFill_congr rfl rfl rfl rfl c)
    have flat := u.stopAll_frame
    rw [State.slotsStopped_frame] at flat
    generalize u.stopAll = w at *
    obtain ⟨main, slow, pump, inlet⟩ := State.outputs_estop halted.1
    refine ⟨_, run.trans (State.finish_eq _), ?_, slots, settles, fun c => ?_, halted.2, flag, main, slow, pump,
      inlet, ?_⟩
    · rw [flat]; rfl
    · refine (fills c).trans ?_
      simp [State.stoppedFill, Receipt.ended, State.qualificationNow_eq]
    · rw [flat]; rfl
  · have run : exec .estopAssert s = ((s.setEstop true).raise .estop).finish :=
      congrArg State.finish ((if_neg (by simp [released])).trans (if_neg (by simp [State.isNormal, saved])))
    exact ⟨_, run.trans (State.finish_eq _), rfl⟩
  · have run : exec .estopRelease s = ((s.setEstop false).raise .estop).finish := congrArg State.finish (if_pos asserted)
    exact ⟨_, run.trans (State.finish_eq _), rfl⟩

end Sys2Proof.Machine
end

section
/-! The park brake (R34, R35, R41, R123). -/

namespace Sys2Proof.Machine

open Sys2Proof

variable {s t u w : State} {p : Port} {h k : Hose} {c d : Comp}

/-! ### The hold set (R34, R35, R41) -/

theorem sameOtherHoses.addHold (s : State) (h : Hose) (k : HoldCause) : sameOtherHoses h s (s.addHold h k) := by
  unfold State.addHold State.enterPaused
  split
  · simp only
    split
    · refine sameOtherHoses.trans (fun k other => ?_) (sameOtherHoses.setSlotState _ h _)
      simp [other]
    · exact sameOtherHoses.modSlot s h _
  · exact sameOtherHoses.refl h s

theorem sameOtherHoses.removeHold (s : State) (h : Hose) (k : HoldCause) : sameOtherHoses h s (s.removeHold h k) := by
  unfold State.removeHold State.returnToReady
  split
  · simp only
    split
    · refine sameOtherHoses.trans ?_ (sameOtherHoses.compareVolume _ h)
      refine sameOtherHoses.trans (fun k other => ?_) (sameOtherHoses.setSlotState _ h _)
      simp [other]
    · exact sameOtherHoses.modSlot s h _
  · exact sameOtherHoses.refl h s

/-- What MOTION does to a hose joins its slot, its control and the pumps (R34). -/
theorem State.addHold_frame (s : State) (h : Hose) (k : HoldCause) :
    s.addHold h k =
      { s with
        slots := (s.addHold h k).slots, hoseCtl := (s.addHold h k).hoseCtl, pumps := (s.addHold h k).pumps
        ports := (s.addHold h k).ports } := by
  by_cases active : (s.slotState h).authorised = true
  · by_cases pauses : (s.slotState h).delivers = true ∧ (s.slots.get h).holds.isEmpty = true
    · rw [State.addHold_pauses k pauses.1 pauses.2]
    · rw [State.addHold_joins k active (by by_contra rest; simp_all)]
      rfl
  · unfold State.addHold
    rw [if_neg active]

/-- What leaves a PAUSED slot free of every hold: the return to READY and the comparison (R28, R35). -/
theorem State.removeHold_frees {k : HoldCause} (paused : s.slotState h = .paused)
    (has : (s.slots.get h).holds.has k = true) (last : ((s.slots.get h).holds.put k false).isEmpty = true) :
    s.removeHold h k = (s.modSlot h fun x => { x with holds := x.holds.put k false }).returnToReady h := by
  unfold State.removeHold
  rw [if_pos has]
  simp only [State.modSlot_slots, PerHose.get_set_same, last, Bool.true_and]
  rw [if_pos (by simpa [State.slotState] using paused)]

theorem State.removeHold_absent {k : HoldCause} (absent : (s.slots.get h).holds.has k = false) : s.removeHold h k = s :=
  if_neg (by simp [absent])

theorem State.returnToReady_frame (paused : s.slotState h = .paused) :
    s.returnToReady h =
      { s with
        slots := (s.returnToReady h).slots, hoseCtl := (s.returnToReady h).hoseCtl
        tracking := (s.returnToReady h).tracking, pumps := (s.returnToReady h).pumps
        ports := (s.returnToReady h).ports } := by
  have active : s.slotState h ≠ .idle := by rw [paused]; decide
  unfold State.returnToReady
  rw [State.compareVolume_frame, State.setSlotState_active (by exact active) (by decide)]
  rfl

theorem State.removeHold_frame (s : State) (h : Hose) (k : HoldCause) :
    s.removeHold h k =
      { s with
        slots := (s.removeHold h k).slots, hoseCtl := (s.removeHold h k).hoseCtl
        tracking := (s.removeHold h k).tracking, pumps := (s.removeHold h k).pumps
        ports := (s.removeHold h k).ports } := by
  cases has : (s.slots.get h).holds.has k with
  | false => rw [State.removeHold_absent has]
  | true =>
    by_cases frees : s.slotState h = .paused ∧ ((s.slots.get h).holds.put k false).isEmpty = true
    · have paused : (s.modSlot h fun x => { x with holds := x.holds.put k false }).slotState h = .paused := by
        simpa [State.slotState] using frees.1
      rw [State.removeHold_frees frees.1 has frees.2, State.returnToReady_frame paused]
      rfl
    · rw [State.removeHold_leaves has (by by_contra rest; simp_all)]
      rfl

/-- A comparison of a slot in READY leaves it READY, SLOWING or CLOSING with its hold set (R28). -/
theorem State.compareVolume_from_ready (ready : s.slotState h = .ready) :
    ((s.compareVolume h).slots.get h).holds = (s.slots.get h).holds
      ∧ ((s.compareVolume h).slotState h = .ready ∨ (s.compareVolume h).slotState h = .slowing
        ∨ (s.compareVolume h).slotState h = .closing) := by
  rcases s.compareVolume_cases h with e | e | e <;> rw [e]
  · rw [State.enterClosing_eq _ (by rw [ready]; rfl)]
    simp [State.slotState]
  · rw [State.enterSlowing_eq (by rw [ready]; decide)]
    simp [State.slotState]
  · exact ⟨rfl, .inl ready⟩

theorem State.returnToReady_slot (s : State) (h : Hose) :
    ((s.returnToReady h).slots.get h).holds = (s.slots.get h).holds
      ∧ ((s.returnToReady h).slotState h = .ready ∨ (s.returnToReady h).slotState h = .slowing
        ∨ (s.returnToReady h).slotState h = .closing) := by
  unfold State.returnToReady
  obtain ⟨holds, state⟩ := State.compareVolume_from_ready (h := h)
    (s := (s.modHoseCtl h fun c => c.resuming (s.timer 60000)).setSlotState h .ready) (by simp [State.slotState, State.setSlotState_eq])
  refine ⟨holds.trans ?_, state⟩
  rw [State.setSlotState_eq]
  simp

/-! ### The park brake (R41, R123) -/

/-- A slot that the release of the park brake holds (R34, R41). -/
def Slot.heldByMotion (x : Slot) : Slot :=
  { x with
    holds := { x.holds with motion := true }
    state := if x.holds.isEmpty && x.state.delivers then .paused else x.state }

theorem State.holdMotion_running (runs : (s.slotState h).running = true) :
    (s.holdMotion h).slots.get h = (s.slots.get h).heldByMotion
      ∧ ((s.slots.get h).holds.isEmpty = true → (s.slotState h).delivers = true →
          ((s.holdMotion h).hoseCtl.get h).pause = some (s.now + 300000)) := by
  have e : s.holdMotion h = s.addHold h .motion := if_pos runs
  rw [e]
  by_cases pauses : (s.slotState h).delivers = true ∧ (s.slots.get h).holds.isEmpty = true
  · obtain ⟨delivers, free⟩ := pauses
    rw [State.addHold_pauses .motion delivers free]
    have delivers' : (s.slots.get h).state.delivers = true := delivers
    simp [Slot.heldByMotion, HoldSet.put, HoseControl.pausing, State.timer, delivers', free]
  · rw [State.addHold_joins .motion (SlotState.authorised_of_running runs) (by by_contra rest; simp_all)]
    refine ⟨?_, fun free delivers => absurd ⟨delivers, free⟩ pauses⟩
    have stays : ((s.slots.get h).holds.isEmpty && (s.slots.get h).state.delivers) = false := by
      by_contra both
      simp only [Bool.not_eq_false, Bool.and_eq_true] at both
      exact pauses ⟨both.2, both.1⟩
    simp [Slot.heldByMotion, HoldSet.put, stays]

theorem State.holdMotion_stopped (stopped : ¬ (s.slotState h).running = true) : s.holdMotion h = s := if_neg stopped

theorem sameOtherHoses.holdMotion (s : State) (h : Hose) : sameOtherHoses h s (s.holdMotion h) := by
  unfold State.holdMotion
  split
  · exact sameOtherHoses.addHold s h .motion
  · exact sameOtherHoses.refl h s

theorem State.holdMotion_frame (s : State) (h : Hose) :
    s.holdMotion h =
      { s with
        slots := (s.holdMotion h).slots, hoseCtl := (s.holdMotion h).hoseCtl, pumps := (s.holdMotion h).pumps
        ports := (s.holdMotion h).ports } := by
  unfold State.holdMotion
  split
  · exact State.addHold_frame s h .motion
  · rfl

/-- The slots' part of the brake's release. -/
def State.motionHeld (s : State) : State := ((s.holdMotion .h1).holdMotion .h2).holdMotion .h3

/-- The slots' part of the brake's setting. -/
def State.motionReleased (s : State) : State :=
  ((s.removeHold .h1 .motion).removeHold .h2 .motion).removeHold .h3 .motion

theorem State.motionHeld_frame (s : State) :
    s.motionHeld =
      { s with
        slots := s.motionHeld.slots, hoseCtl := s.motionHeld.hoseCtl, pumps := s.motionHeld.pumps
        ports := s.motionHeld.ports } := by
  unfold State.motionHeld
  rw [State.holdMotion_frame, State.holdMotion_frame _ .h2, State.holdMotion_frame _ .h1]

theorem State.motionReleased_frame (s : State) :
    s.motionReleased =
      { s with
        slots := s.motionReleased.slots, hoseCtl := s.motionReleased.hoseCtl, tracking := s.motionReleased.tracking
        pumps := s.motionReleased.pumps, ports := s.motionReleased.ports } := by
  unfold State.motionReleased
  rw [State.removeHold_frame, State.removeHold_frame _ .h2, State.removeHold_frame _ .h1]

/-- What the release of the park brake does to a hose. -/
def MotionHolds (h : Hose) (s t : State) : Prop :=
  t.slots.get h = (if (s.slotState h).running = true then (s.slots.get h).heldByMotion else s.slots.get h)
    ∧ ((s.slots.get h).holds.isEmpty = true → (s.slotState h).delivers = true →
        (t.hoseCtl.get h).pause = some (s.now + 300000))

theorem State.holdMotion_holds (s : State) (h : Hose) : MotionHolds h s (s.holdMotion h) := by
  by_cases runs : (s.slotState h).running = true
  · obtain ⟨slot, pause⟩ := State.holdMotion_running runs
    exact ⟨slot.trans (if_pos runs).symm, pause⟩
  · rw [State.holdMotion_stopped runs]
    exact ⟨(if_neg runs).symm, fun _ delivers => absurd (SlotState.running_of_delivers delivers) runs⟩

theorem State.motionHeld_holds (s : State) (h : Hose) : MotionHolds h s s.motionHeld := by
  obtain ⟨u, now, ⟨before, -⟩, ⟨slots, -, hoseCtl, -⟩⟩ :=
    each_hose_turn (f := State.holdMotion) (P := fun t => t.now = s.now) sameOtherHoses.holdMotion rfl
      (fun t k e => by rw [State.holdMotion_frame]; exact e) h
  have held := u.holdMotion_holds h
  unfold MotionHolds State.motionHeld at *
  rw [slots, hoseCtl]
  rwa [State.slotState, before, now] at held

/-- What the setting of the park brake does to a hose. -/
def MotionLeaves (h : Hose) (s t : State) : Prop :=
  (t.slots.get h).holds = { (s.slots.get h).holds with motion := false }
    ∧ ((s.slots.get h).holds.motion = false ∨ s.slotState h ≠ .paused ∨ (t.slots.get h).holds.isEmpty = false →
        t.slotState h = s.slotState h)
    ∧ ((s.slots.get h).holds.motion = true → s.slotState h = .paused → (t.slots.get h).holds.isEmpty = true →
        t.slotState h = .ready ∨ t.slotState h = .slowing ∨ t.slotState h = .closing)

theorem State.removeHold_motionLeaves (s : State) (h : Hose) : MotionLeaves h s (s.removeHold h .motion) := by
  cases has : (s.slots.get h).holds.motion with
  | false =>
    rw [State.removeHold_absent (s := s) (h := h) (k := .motion) has]
    refine ⟨?_, fun _ => rfl, fun held => by simp [has] at held⟩
    rw [← has]
  | true =>
    by_cases frees : s.slotState h = .paused ∧ ((s.slots.get h).holds.put .motion false).isEmpty = true
    · obtain ⟨paused, last⟩ := frees
      rw [State.removeHold_frees (k := .motion) paused has last]
      obtain ⟨holds, state⟩ :=
        (s.modSlot h fun x => { x with holds := x.holds.put .motion false }).returnToReady_slot h
      have left : ((s.modSlot h fun x => { x with holds := x.holds.put .motion false }).slots.get h).holds
          = (s.slots.get h).holds.put .motion false := by simp
      rw [left] at holds
      refine ⟨holds, fun stays => ?_, fun _ _ _ => state⟩
      rw [holds, last] at stays
      simp [has, paused] at stays
    · rw [State.removeHold_leaves (s := s) (h := h) (k := .motion) has (by by_contra rest; simp_all)]
      have slot : ((s.modSlot h fun x => { x with holds := x.holds.put .motion false }).slots.get h)
          = { s.slots.get h with holds := (s.slots.get h).holds.put .motion false } := by simp
      refine ⟨by rw [slot]; rfl, fun _ => by rw [State.slotState, slot]; rfl, fun _ paused last => ?_⟩
      rw [slot] at last
      exact absurd ⟨paused, last⟩ frees

theorem State.motionReleased_leaves (s : State) (h : Hose) : MotionLeaves h s s.motionReleased := by
  obtain ⟨u, -, ⟨before, -⟩, ⟨slots, -⟩⟩ :=
    each_hose_turn (f := fun t k => t.removeHold k .motion) (P := fun _ => True)
      (fun t k => sameOtherHoses.removeHold t k .motion) trivial (fun _ _ _ => trivial) h
  have left := u.removeHold_motionLeaves h
  unfold MotionLeaves State.motionReleased State.slotState at *
  rw [slots]
  rwa [before] at left

theorem State.reviewGauges_history (s : State) (c : Comp) :
    (s.reviewGauges.gauge.get c).history = (s.gauge.get c).history := by
  unfold State.reviewGauges
  cases c <;> rw [State.reviewGauge_eq, State.reviewGauge_eq] <;> simp [Gauge.reviewed_kept]

/-- With fewer than ten levels no gauge is VALID (R125). -/
theorem State.gaugeStateOf_short (few : (s.gauge.get c).history.length < 10) : s.gaugeStateOf c ≠ .valid := by
  have unstable : historyUnstable (s.gauge.get c).history = true := by simp [historyUnstable, few]
  unfold State.gaugeStateOf
  rw [unstable, if_pos rfl]
  split
  · decide
  · split_ifs <;> decide

/-- Settles O51, hose by hose. -/
theorem parkBrake : Obligations.ParkBrake := by
  refine ⟨fun s set => ?_, fun s released => ?_⟩
  · let u := s.setBrake true
    let v := if s.isNormal then u.motionHeld else u
    have run : exec .parkBrakeRelease s = v.emptyHistories.reviewGauges.finish :=
      congrArg State.finish (if_neg (by simp [set]))
    have held (normal : s.supply = .normal) (h : Hose) : MotionHolds h s v := by
      have e : v = u.motionHeld := if_pos (by simp [State.isNormal, normal])
      rw [e]
      exact u.motionHeld_holds h
    have idle (saved : s.supply = .saved) : v = u := if_neg (by simp [State.isNormal, saved])
    have flat : v = { u with slots := v.slots, hoseCtl := v.hoseCtl, pumps := v.pumps, ports := v.ports } := by
      unfold v
      split
      · exact u.motionHeld_frame
      · rfl
    have histories (c : Comp) : (v.emptyHistories.reviewGauges.gauge.get c).history = [] := by
      rw [State.reviewGauges_history]
      cases c <;> rfl
    generalize v = v at *
    have states := v.emptyHistories.reviewGauges_state
    have gauges := v.emptyHistories.reviewGauges_frame
    generalize v.emptyHistories.reviewGauges = t at *
    refine ⟨_, run.trans (State.finish_eq _), ?_, fun saved => ?_, fun normal h => ?_, fun c => ⟨histories c, states c⟩, ?_⟩
    · rw [gauges, flat]; rfl
    · rw [gauges, idle saved]; rfl
    · have slots := held normal h
      rw [gauges]
      exact slots
    · rw [gauges, flat]; rfl
  · let u := s.setBrake false
    let v := if s.isNormal then u.motionReleased else u
    have run : exec .parkBrakeSet s = v.reviewGauges.finish := congrArg State.finish (if_pos released)
    have left (normal : s.supply = .normal) (h : Hose) : MotionLeaves h s v := by
      have e : v = u.motionReleased := if_pos (by simp [State.isNormal, normal])
      rw [e]
      exact u.motionReleased_leaves h
    have idle (saved : s.supply = .saved) : v = u := if_neg (by simp [State.isNormal, saved])
    have flat : v = { u with
        slots := v.slots, hoseCtl := v.hoseCtl, tracking := v.tracking, pumps := v.pumps, ports := v.ports } := by
      unfold v
      split
      · exact u.motionReleased_frame
      · rfl
    generalize v = v at *
    have histories (c : Comp) : (v.reviewGauges.gauge.get c).history = (s.gauge.get c).history := by
      rw [State.reviewGauges_history, flat]
      rfl
    have states := v.reviewGauges_state
    have gauges := v.reviewGauges_frame
    generalize v.reviewGauges = t at *
    refine ⟨_, run.trans (State.finish_eq _), ?_, fun saved => ?_, fun normal h => ?_,
      fun c => ⟨histories c, states c, fun few => ?_⟩, ?_⟩
    · rw [gauges, flat]; rfl
    · rw [gauges, idle saved]; rfl
    · have slots := left normal h
      rw [gauges]
      exact slots
    · refine fun valid => State.gaugeStateOf_short (s := t) (c := c) ?_ ((states c).symm.trans valid)
      rw [histories c]
      exact few
    · rw [gauges, flat]; rfl

end Sys2Proof.Machine
end

section
/-! The slots' timers and the roster wait (R81, R96, R109). -/

namespace Sys2Proof.Machine

open Sys2Proof

variable {s t u w : State} {p : Port} {h k : Hose} {c d : Comp}

/-! ### The slots' timers (R96, R109) -/

theorem SlotState.waiting_of_timed {st : SlotState} (timed : st = .ident ∨ st = .lookup ∨ st = .hoursWait) :
    st.timed = true ∧ st.waiting = true := by
  rcases timed with rfl | rfl | rfl <;> exact ⟨rfl, rfl⟩

/-- What either timer's expiry does where its slot waits for it. -/
theorem exec_slot_expiry {i : Instr}
    (which : (i = .identificationTimerExpiry h ∧ (s.slots.get h).identTimer.isSome = true
        ∧ (s.slotState h = .ident ∨ s.slotState h = .lookup ∨ s.slotState h = .hoursWait))
      ∨ (i = .overrideWindowExpiry h ∧ (s.slots.get h).overrideTimer.isSome = true
        ∧ s.slotState h = .overrideWait)) :
    exec i s = ((s.abandon h).checkVariance (hoseComp h)).finish ∧ (s.slotState h).waiting = true := by
  rcases which with ⟨rfl, runs, timed⟩ | ⟨rfl, runs, waits⟩
  · obtain ⟨timed, waiting⟩ := SlotState.waiting_of_timed timed
    exact ⟨congrArg State.finish (if_pos (by simp [runs, timed])), waiting⟩
  · exact ⟨congrArg State.finish (if_pos (by simp [runs, waits])), by rw [waits]; rfl⟩

/-! ### The roster wait (R81) -/

theorem State.serveOverride_rests (h : Hose) (other : s.slotState h ≠ .overrideWait) : s.serveOverride h = s := by
  unfold State.serveOverride
  split
  · next state _ => exact absurd state other
  · rfl

theorem sameOtherHoses.serveOverride (s : State) (h : Hose) : sameOtherHoses h s (s.serveOverride h) := by
  unfold State.serveOverride
  split
  · split
    · exact (sameOtherHoses.modSlot s h _).trans (sameOtherHoses.giveEntry _ h _)
    · simp only
      split
      · exact sameOtherHoses.trans (fun k other => by simp [other]) (sameOtherHoses.giveEntry _ h _)
      · exact fun k other => by simp [other]
  · exact sameOtherHoses.refl h s

theorem sameOtherHoses.expireWaiter (s : State) (wanted : Bool) (h : Hose) :
    sameOtherHoses h s (s.expireWaiter wanted h) := by
  unfold State.expireWaiter State.enterOverrideWait
  split
  · simp only
    have entered : sameOtherHoses h s ((s.modSlot h fun x => { x with
        identTimer := none, overrideTimer := if s.isNormal then s.timer 60000 else none }).setSlotState h
          .overrideWait) := (sameOtherHoses.modSlot s h _).trans (sameOtherHoses.setSlotState _ h _)
    split
    · exact entered.trans (sameOtherHoses.serveOverride _ h)
    · exact entered
  · exact sameOtherHoses.refl h s

/-- A waiter whose request has expired, in NORMAL and with the supervisor window closed (R81). -/
theorem State.expireWaiter_eq (normal : s.supply = .normal) (closed : s.supervisor = none)
    (looking : s.slotState h = .lookup) :
    s.expireWaiter true h =
      { s with
        slots := s.slots.set h
          { s.slots.get h with
            state := .overrideWait, identTimer := none, overrideTimer := some (s.now + 60000) }
        pumps := (s.expireWaiter true h).pumps, ports := (s.raise (.hoseState h)).ports } := by
  have entered : s.expireWaiter true h = (s.modSlot h fun x =>
      { x with identTimer := none, overrideTimer := some (s.now + 60000) }).setSlotState h .overrideWait := by
    unfold State.expireWaiter State.enterOverrideWait
    simp [looking, closed, State.isNormal, normal, State.timer]
  rw [entered, State.setSlotState_active (by simp [State.slotState, show (s.slots.get h).state = _ from looking])
    (by decide)]
  simp [State.modSlot]
  rfl

/-- Settles O56. -/
theorem slotTimerExpiries : Obligations.SlotTimerExpiries := by
  refine fun s h => ⟨fun i which => ?_, fun m q normal closed found waits looking alone => ?_⟩
  · obtain ⟨run, waiting⟩ := exec_slot_expiry which
    rw [State.checkVariance_frame, State.abandon_eq waiting] at run
    refine ⟨_, run.trans (State.finish_eq _), rfl, ?_, ?_, State.outputs_coil_off ?_, s.forgotten_waiters h,
      fun k other => ⟨?_, ?_⟩, rfl⟩
    · simp [ReaderState.powerOff, ReaderState.off]
    · simp
    · simp [ReaderState.powerOff, ReaderState.off]
    · simp [other]
    · simp [other]
  · have listed : s.roster.requestOf m.toNat = some q := found
    have waiter (k : Hose) : s.roster.waitsOn m.toNat k = q.waiters.get k := by simp [Roster.waitsOn, listed]
    let u := s.modRoster fun r => r.removeRequest m.toNat
    have one : s.expireRequest m.toNat = u.expireWaiter (s.roster.waitsOn m.toNat h) h :=
      only_one_acts (rest := fun k st => s.roster.waitsOn m.toNat k = true → st ≠ .lookup)
        (f := fun k x => x.expireWaiter (s.roster.waitsOn m.toNat k) k)
        (fun k x => sameOtherHoses.expireWaiter x _ k)
        (fun k x rests => if_neg (by simpa using rests))
        fun k other wanted => alone k other ((waiter k).symm.trans wanted)
    have run : exec (.rosterWaitExpiry m) s = (s.expireRequest m.toNat).finish :=
      congrArg State.finish (if_pos (by rw [listed]; rfl))
    rw [one, waiter h, waits, State.expireWaiter_eq (s := u) normal closed looking] at run
    exact ⟨_, run.trans (State.finish_eq _), rfl, rfl, rfl, rfl⟩

end Sys2Proof.Machine
end

section
/-! The opening of a receipt and the overfill switches (R138 to R140, R144). -/

namespace Sys2Proof.Machine

open Sys2Proof

variable {s t u w : State} {p : Port} {h k : Hose} {c d : Comp}

/-! ### The opening snapshot (R138) -/

/-- A receipt after its opening snapshot. -/
def State.openedReceipt (s : State) (c : Comp) : Receipt :=
  { s.receipts.get c with
    v0 := s.snapshot c, dispensed := some 0, limit := none, qualification := none
    fillStart := some s.clock.counter }

/-- A fill ended with OVERFILL_TRIP (R144, R145, R147). -/
def State.trippedFill (s : State) (c : Comp) (r : Receipt) : Receipt :=
  { r with overfillTrip := true }.ended s.clock.counter (some (s.now + 900000)) (s.qualificationNow c 120000)

theorem State.takeOpening_fills (dry : s.switches.overfill.get c = false) (low : s.atHighHigh c = false)
    (free : s.switches.estop = false) :
    s.takeOpening c =
      { s with
        receipts := s.receipts.set c { s.openedReceipt c with state := .filling }
        ports := (s.raise (.receiptState c)).ports } := by
  unfold State.takeOpening
  simp only [dry, low, free, Bool.or_self, Bool.false_eq_true, if_false]
  simp [State.modReceipt, State.openedReceipt]
  rfl

theorem State.takeOpening_trips (wet : s.switches.overfill.get c = true) :
    s.takeOpening c =
      { s with
        receipts := s.receipts.set c (s.trippedFill c (s.openedReceipt c)), ports := (s.takeOpening c).ports } := by
  have e : s.takeOpening c =
      (((s.modReceipt c fun _ => s.openedReceipt c).modReceipt c fun r => { r with overfillTrip := true }).endFill
        c).raise .overfill := if_pos (by simp [wet])
  rw [e, State.modReceipt_endFill]
  simp only [State.modReceipt_receipts, PerComp.get_set_same, PerComp.set_set]
  rfl

/-! ### A fill that trips (R144, R145) -/

theorem State.tripFill_eq (s : State) (c : Comp) :
    s.tripFill c =
      { s with
        receipts := s.receipts.set c (s.trippedFill c (s.receipts.get c))
        ports := (s.raise (.receiptState c)).ports } := State.modReceipt_endFill s c _

theorem FlagsStand.tripFill (s : State) (c : Comp) : FlagsStand s (s.tripFill c) := by
  have ports : (s.tripFill c).ports = (s.raise (.receiptState c)).ports := by rw [State.tripFill_eq]
  exact (FlagsStand.raise s (.receiptState c)).trans (FlagsStand.of_ports ports)

/-- The receipt that an overfill assertion leaves (R144). -/
def State.overfilledReceipt (s : State) (c : Comp) : Receipt :=
  match (s.receipts.get c).state with
  | .filling => s.trippedFill c (s.receipts.get c)
  | .settling => { s.receipts.get c with overfillTrip := true }
  | _ => s.receipts.get c

theorem State.overfillReceipt_eq (s : State) (c : Comp) :
    s.overfillReceipt c =
      { s with receipts := s.receipts.set c (s.overfilledReceipt c), ports := (s.overfillReceipt c).ports } := by
  unfold State.overfillReceipt State.overfilledReceipt
  cases state : (s.receipts.get c).state with
  | filling =>
    simp only
    rw [State.tripFill_eq]
  | settling => rfl
  | opening | closed => cases c <;> rfl

theorem FlagsStand.overfillReceipt (s : State) (c : Comp) : FlagsStand s (s.overfillReceipt c) := by
  unfold State.overfillReceipt
  split
  · exact FlagsStand.tripFill s c
  · exact FlagsStand.of_ports rfl
  · exact FlagsStand.refl s

theorem State.outputs_inlet_shut (wet : s.switches.overfill.get c = true) : s.outputs.inlet.get c = false := by
  rw [State.outputs_inlet]
  simp [State.inletOpen, State.inletForced, wet]

/-- Settles O58. -/
theorem openingAndOverfill : Obligations.OpeningAndOverfill := by
  intro s c r opened settled overfilled
  refine ⟨fun opening qualifies dry free low => ?_, fun opening qualifies wet => ?_, fun opening limited => ?_,
    fun dry normal => ?_, fun dry saved => ?_, _, State.finish_eq (s := s.setOverfill c false), rfl⟩
  · have run : exec (.openingQualificationExpiry c) s = (s.takeOpening c).finish :=
      congrArg State.finish (if_pos (by rw [Receipt.qualifies, opening, qualifies]; rfl))
    rw [State.takeOpening_fills dry low free] at run
    refine ⟨_, run.trans (State.finish_eq _), rfl, rfl, (State.outputs_inlet c).trans ?_, rfl⟩
    simp [State.inletOpen, State.inletForced, State.isNormal, dry, free]
  · have run : exec (.openingQualificationExpiry c) s = (s.takeOpening c).finish :=
      congrArg State.finish (if_pos (by rw [Receipt.qualifies, opening, qualifies]; rfl))
    rw [State.takeOpening_trips wet] at run
    exact ⟨_, run.trans (State.finish_eq _), rfl, State.outputs_inlet_shut wet, rfl⟩
  · have run : exec (.openingLimitExpiry c) s = (s.cancelReceipt c).finish :=
      congrArg State.finish (if_pos (by rw [Receipt.limited, opening, limited]; rfl))
    rw [State.cancelReceipt_eq] at run
    exact ⟨_, run.trans (State.finish_eq _), rfl, rfl, rfl⟩
  · let u := (s.setOverfill c true).raise .overfill
    have run : exec (.overfillAssert c) s = (u.overfillReceipt c).finish :=
      congrArg State.finish ((if_neg (by simp [dry])).trans (if_pos (by simpa [State.isNormal] using normal)))
    have flag : ((u.overfillReceipt c).ports.get .depot).hasFlag .depot .overfill = true :=
      (FlagsStand.overfillReceipt u c).hasFlag (State.raise_hasFlag normal (by decide))
    rw [State.overfillReceipt_eq] at run
    exact ⟨_, run.trans (State.finish_eq _), rfl, flag, State.outputs_inlet_shut (PerComp.get_set_same _ _ _), rfl⟩
  · have run : exec (.overfillAssert c) s = ((s.setOverfill c true).raise .overfill).finish :=
      congrArg State.finish ((if_neg (by simp [dry])).trans (if_neg (by simp [State.isNormal, saved])))
    exact ⟨_, run.trans (State.finish_eq _), rfl⟩

end Sys2Proof.Machine
end

section
/-! The close of a receipt with its credit and record (R120, R147 to R150). -/

namespace Sys2Proof.Machine

open Sys2Proof

variable {s t u w : State} {p : Port} {h k : Hose} {c d : Comp}

/-! ### The credit (R120) -/

/-- The stock record of a credit, before its cut flag. -/
def Stock.credit (x : Stock) (credit : Int) : Stock :=
  { x with
    book := clampInt (-bookLimit) bookLimit (x.book + credit)
    credited := ((x.credited + credit) % counterModulus).toNat }

/-- A credit with its cut, before the re-arm and restock tests. -/
def State.creditedStock (s : State) (c : Comp) (credit : Int) : State :=
  (s.modStock c fun x => x.credit credit).evaluateCut c

theorem State.creditStock_eq (s : State) (c : Comp) (credit : Int) :
    s.creditStock c credit = ((s.creditedStock c credit).rearmTest c).restockIfFell c (s.availableStock c) := rfl

theorem State.creditedStock_frame (s : State) (c : Comp) (credit : Int) :
    s.creditedStock c credit =
      { s with
        stock := s.stock.set c
          { (s.stock.get c).credit credit with
            cut := decide (((s.stock.get c).credit credit).book ≤ s.cal.dead.get c) }
        slots := (s.creditedStock c credit).slots, hoseCtl := (s.creditedStock c credit).hoseCtl
        tracking := (s.creditedStock c credit).tracking, pumps := (s.creditedStock c credit).pumps
        ports := (s.creditedStock c credit).ports } := by
  unfold State.creditedStock
  rw [State.evaluateCut_frame, State.evaluateCut_stock]
  simp

theorem State.creditStock_frame (s : State) (c : Comp) (credit : Int) :
    s.creditStock c credit =
      { s with
        stock := (s.creditStock c credit).stock, slots := (s.creditStock c credit).slots
        hoseCtl := (s.creditStock c credit).hoseCtl, tracking := (s.creditStock c credit).tracking
        pumps := (s.creditStock c credit).pumps, ports := (s.creditStock c credit).ports } := by
  rw [State.creditStock_eq, State.restockIfFell_frame, State.rearmTest_frame, State.creditedStock_frame]

theorem State.creditStock_figures (s : State) (c : Comp) (credit : Int) :
    ((s.creditStock c credit).stock.get c).book = ((s.stock.get c).credit credit).book
      ∧ ((s.creditStock c credit).stock.get c).credited = ((s.stock.get c).credit credit).credited
      ∧ ((s.creditStock c credit).stock.get c).cut
          = decide (((s.stock.get c).credit credit).book ≤ s.cal.dead.get c)
      ∧ ∀ d, d ≠ c → (s.creditStock c credit).stock.get d = s.stock.get d := by
  let z := s.creditedStock c credit
  obtain ⟨book, credited, -, -, cut⟩ := (z.rearmTest c).restockIfFell_figures c (s.availableStock c)
  obtain ⟨book', credited', -, -, cut'⟩ := z.rearmTest_figures c
  have stock : z.stock = _ := congrArg State.stock (s.creditedStock_frame c credit)
  rw [State.creditStock_eq]
  refine ⟨(book.trans book').trans ?_, (credited.trans credited').trans ?_, (cut.trans cut').trans ?_, fun d other => ?_⟩
  · rw [stock]; simp
  · rw [stock]; simp
  · rw [stock]; simp
  · exact (State.restockIfFell_stock_ne other).trans ((State.rearmTest_stock_ne other).trans (by rw [stock]; simp [other]))

/-! ### The close (R148, R150, R159) -/

/-- A holder's reservation becomes its record (R156, R159). -/
theorem State.convertSlot_eq {k : Holder} {mark : Bool} (body : RecordBody) (holds : s.journal.register.get k = some mark) :
    s.convertSlot k body =
      { s with
        journal := { s.journal with
          register := s.journal.register.put k none
          records := s.journal.records ++ [⟨s.journal.next, body.ownClockInvalid || !s.clock.valid || mark, body⟩]
          next := s.journal.next + 1 }
        ports := (s.raise .journalNew).ports } := by
  unfold State.convertSlot
  simp only [holds]
  rfl

/-- The receipt that a close leaves. -/
def Receipt.credited (r : Receipt) (credit : Int) (counter : Nat) : Receipt :=
  { r with
    state := .closed, outcome := some .credited, credit := some credit, closeTime := some counter
    qualification := none, limit := none }

/-- The record of a close with the book stock after its credit (R150). -/
def Receipt.record (r : Receipt) (c : Comp) (credit book : Int) (counter : Nat) : RecordBody :=
  .receipt
    { comp := c, docket := r.docket.getD 0, declared := r.declared.getD 0, basis := r.basis.getD .docket
      v0 := r.v0, v1 := r.v1, dispensed := r.dispensed.getD 0, measured := r.measured
      variance := r.variance, credit := credit, bookAfter := book
      openTime := r.openTime.getD 0, fillStart := r.fillStart.getD 0, fillEnd := r.fillEnd.getD 0
      closeTime := counter, overfillTrip := r.overfillTrip
      gaugeUnavailable := r.gaugeUnavailable, aborted := r.aborted }

theorem State.closeReceipt_eq {mark : Bool} (credit : Int) (holds : s.journal.register.receipts.get c = some mark) :
    s.closeReceipt c credit =
      { s with
        receipts := s.receipts.set c ((s.receipts.get c).credited credit s.clock.counter)
        stock := (s.creditStock c credit).stock
        journal := { s.journal with
          register := s.journal.register.put (.receipt c) none, next := s.journal.next + 1
          records := s.journal.records ++ [⟨s.journal.next, !s.clock.valid || mark,
            (s.receipts.get c).record c credit ((s.stock.get c).credit credit).book s.clock.counter⟩] }
        gauge := (s.closeReceipt c credit).gauge, slots := (s.creditStock c credit).slots
        hoseCtl := (s.creditStock c credit).hoseCtl, tracking := (s.creditStock c credit).tracking
        pumps := (s.creditStock c credit).pumps, ports := (s.closeReceipt c credit).ports } := by
  let t := (s.creditStock c credit).modReceipt c fun r =>
    { r with credit := some credit, closeTime := some s.clock.counter, qualification := none, limit := none }
  have flat : t =
      { s with
        receipts := t.receipts, stock := (s.creditStock c credit).stock, slots := (s.creditStock c credit).slots
        hoseCtl := (s.creditStock c credit).hoseCtl, tracking := (s.creditStock c credit).tracking
        pumps := (s.creditStock c credit).pumps, ports := t.ports } := by
    unfold t
    rw [State.creditStock_frame]
    rfl
  have held : t.receipts = s.receipts.set c
      { s.receipts.get c with
        credit := some credit, closeTime := some s.clock.counter, qualification := none, limit := none } := by
    unfold t
    rw [State.creditStock_frame]
    rfl
  have body : t.composeReceipt c =
      (s.receipts.get c).record c credit ((s.stock.get c).credit credit).book s.clock.counter := by
    unfold State.composeReceipt
    rw [held, ← (s.creditStock_figures c credit).1]
    simp [Receipt.record]
    rfl
  have e : s.closeReceipt c credit =
      (((t.convertSlot (.receipt c) (t.composeReceipt c)).modReceipt c fun r =>
        { r with state := .closed, outcome := some .credited }).raise (.receiptState c)).checkVariance c := rfl
  have register : t.journal.register.get (.receipt c) = some mark := by rw [flat]; exact holds
  rw [e, State.checkVariance_frame, State.convertSlot_eq _ register, body]
  generalize t = t at *
  rw [flat, held]
  simp only [State.modReceipt, State.raise, PerComp.get_set_same, PerComp.set_set]
  rfl

/-- A receipt with what its settling adds before the credit (R147, R149). -/
def Receipt.settled (r : Receipt) (v1 : Option Snapshot) (measured variance : Option Int) (unavailable : Bool) :
    Receipt :=
  { r with v1 := v1, measured := measured, variance := variance, gaugeUnavailable := unavailable }

theorem Stock.credit_book (x : Stock) (credit : Int) :
    (x.credit credit).book = max (-549755813888) (min 549755813888 (x.book + credit)) :=
  clampInt_eq (by decide) _

/-- Settles O59, through one account of both closes. -/
theorem settlingCloses : Obligations.SettlingCloses := by
  intro s c mark declared settling holds declares r closes
  have closed (i : Instr) (v1 : Option Snapshot) (measured variance : Option Int) (unavailable : Bool) (credit : Int)
      (run : exec i s =
        ((s.modReceipt c fun r => r.settled v1 measured variance unavailable).closeReceipt c credit).finish) :
      closes i (r.settled v1 measured variance unavailable) credit := by
    unfold closes
    intro book
    let u := s.modReceipt c fun r => r.settled v1 measured variance unavailable
    have worth : ((s.stock.get c).credit credit).book = book := Stock.credit_book _ _
    have after : (u.stock.get c).credit credit = (s.stock.get c).credit credit := rfl
    have receipt : u.receipts.get c = r.settled v1 measured variance unavailable := PerComp.get_set_same _ _ _
    obtain ⟨booked, credited, cut, others⟩ := u.creditStock_figures c credit
    have flat := State.closeReceipt_eq (s := u) credit holds
    have frame := u.creditStock_frame c credit
    rw [after, worth] at booked cut flat
    rw [receipt] at flat
    rw [flat] at run
    refine ⟨_, run.trans (State.finish_eq _), ?_, booked, ?_, ?_, ?_, others, ?_⟩
    · simp [u, Receipt.credited, Receipt.settled]
    · exact credited
    · rw [cut]
      exact decide_eq_true_iff
    · unfold Receipt.record
      rw [show (r.settled v1 measured variance unavailable).declared = some declared from declares]
      rfl
    · rfl
  constructor
  · intro qualifies a opening v reading measured
    have run : exec (.settlingQualificationExpiry c) s = (s.takeClosing c).finish :=
      congrArg State.finish (if_pos (by rw [Receipt.qualifies, settling, qualifies]; rfl))
    have snap : s.snapshot c = some ⟨v.net, v.level, v.aboveTable⟩ := by simp [State.snapshot, reading]
    have credit : s.takeClosing c = (s.modReceipt c fun r =>
        r.settled (some ⟨v.net, v.level, v.aboveTable⟩) (some measured) (some (measured - declared))
          r.gaugeUnavailable).closeReceipt c (if r.basis = some .gauge then measured else declared) := by
      unfold State.takeClosing
      simp only [snap, show (s.receipts.get c).v0 = some a from opening, declares, measuredOf]
      split
      · next gauge amount =>
        rw [if_pos gauge]
        cases amount
        rfl
      · next others =>
        rw [if_neg fun gauge => others _ gauge rfl]
        rfl
    exact closed _ _ _ _ r.gaugeUnavailable _ (run.trans (congrArg State.finish credit))
  · intro limited
    have run : exec (.settlingLimitExpiry c) s = (s.closeUnavailable c).finish :=
      congrArg State.finish (if_pos (by rw [Receipt.limited, settling, limited]; rfl))
    have credit : s.closeUnavailable c =
        (s.modReceipt c fun x => x.settled r.v1 r.measured r.variance true).closeReceipt c declared := by
      unfold State.closeUnavailable
      rw [declares]
      rfl
    exact closed _ r.v1 r.measured r.variance true _ (run.trans (congrArg State.finish credit))

end Sys2Proof.Machine
end

section
/-! The events of the probes, the inclinometer and the variance monitor (R123 to R127, R130, R131, R145). -/

namespace Sys2Proof.Machine

open Sys2Proof

variable {s t u w : State} {p : Port} {h k : Hose} {c d : Comp}

/-! ### The review of a gauge (R125) -/

theorem Gauge.reviewed_lastValid (g : Gauge) (st : GaugeState) (since : Nat) (q : Timer) :
    (g.reviewed st since q).lastValid = g.lastValid := by
  unfold Gauge.reviewed
  split_ifs <;> rfl

/-- A gauge that leaves VALID loses both marks of its validity (R125). -/
theorem Gauge.reviewed_leaves_valid {g : Gauge} {st : GaugeState} (since : Nat) (q : Timer) (was : g.state = .valid)
    (leaves : st ≠ .valid) :
    (g.reviewed st since q).validSince = none ∧ (g.reviewed st since q).validQualification = none := by
  unfold Gauge.reviewed
  rw [if_neg (was ▸ leaves), if_neg leaves, if_pos was]
  exact ⟨rfl, rfl⟩

theorem State.receiptGauge_receipts_ne (entered : Bool) (other : d ≠ c) :
    (s.receiptGauge c entered).receipts.get d = s.receipts.get d := by
  unfold State.receiptGauge
  split
  · simp [other]
  · rfl

theorem State.receiptGauge_receipt_state (entered : Bool) (c : Comp) :
    ((s.receiptGauge c entered).receipts.get c).state = (s.receipts.get c).state := by
  unfold State.receiptGauge
  split
  · simp
  · rfl

theorem State.reviewGauge_receipts_ne (other : d ≠ c) : (s.reviewGauge c).receipts.get d = s.receipts.get d := by
  unfold State.reviewGauge
  simp only
  split_ifs
  · rfl
  · exact State.receiptGauge_receipts_ne true other
  · exact State.receiptGauge_receipts_ne false other
  · rfl

theorem State.reviewGauge_receipt_state (s : State) (c : Comp) :
    ((s.reviewGauge c).receipts.get c).state = (s.receipts.get c).state := by
  unfold State.reviewGauge
  simp only
  split_ifs
  · rfl
  · exact State.receiptGauge_receipt_state true c
  · exact State.receiptGauge_receipt_state false c
  · rfl

/-- Without a running absence timer the gauge is ABSENT (R125). -/
theorem State.gaugeStateOf_absent (ended : (s.gauge.get c).absenceTimer = none) : s.gaugeStateOf c = .absent := by
  unfold State.gaugeStateOf
  split
  · rfl
  · rw [ended]; rfl

theorem State.gaugeStateOf_tilted (beyond : s.tiltBeyond = true) : s.gaugeStateOf c ≠ .valid := by
  unfold State.gaugeStateOf
  rw [beyond, if_pos rfl]
  split
  · decide
  · split_ifs <;> decide

/-! ### Probe frames (R123, R127, R145) -/

/-- A gauge with the reading it holds after a frame (R127). -/
def State.heldReading (s : State) (c : Comp) (f : GaugeFrame) : Option GaugeReading :=
  if (s.gauge.get c).state = .valid then some (s.gaugeReading c f) else (s.gauge.get c).lastValid

theorem State.holdReading_eq (s : State) (c : Comp) (f : GaugeFrame) :
    s.holdReading c f =
      { s with gauge := s.gauge.set c { s.gauge.get c with lastValid := s.heldReading c f } } := by
  unfold State.holdReading State.heldReading
  split
  · rfl
  · cases c <;> rfl

theorem State.checkHighHigh_frame (s : State) (c : Comp) :
    s.checkHighHigh c =
      { s with receipts := (s.checkHighHigh c).receipts, ports := (s.checkHighHigh c).ports } := by
  unfold State.checkHighHigh
  split
  · rw [State.tripFill_eq]
    rfl
  · rfl

theorem State.checkHighHigh_receipts_ne (other : d ≠ c) : (s.checkHighHigh c).receipts.get d = s.receipts.get d := by
  unfold State.checkHighHigh
  split
  · rw [State.tripFill_eq]
    simp [other]
  · rfl

/-- A fill with a frame at the high-high level is tripped (R145). -/
theorem State.checkHighHigh_trips (normal : s.supply = .normal) (filling : (s.receipts.get c).state = .filling)
    (high : s.atHighHigh c = true) :
    ((s.checkHighHigh c).receipts.get c) = s.trippedFill c (s.receipts.get c)
      ∧ ((s.checkHighHigh c).ports.get .depot).hasFlag .depot .overfill = true := by
  have e : s.checkHighHigh c = (s.tripFill c).raise .overfill := if_pos (by simp [State.isNormal, normal, filling, high])
  rw [e]
  constructor
  · rw [State.tripFill_eq]
    simp
  · exact State.raise_hasFlag (by rw [State.tripFill_eq]; exact normal) (by decide)

/-- The gauge that has taken a frame. -/
def State.frameTaken (s : State) (c : Comp) (f : GaugeFrame) : State :=
  s.modGauge c fun g => g.takeFrame f s.switches.brakeReleased (s.timer 5000)

/-- The state after a probe frame, before the high-high check. -/
def State.framed (s : State) (c : Comp) (f : GaugeFrame) : State := ((s.frameTaken c f).reviewGauge c).holdReading c f

theorem State.framed_frame (s : State) (c : Comp) (f : GaugeFrame) :
    s.framed c f =
      { s with gauge := (s.framed c f).gauge, receipts := (s.framed c f).receipts, ports := (s.framed c f).ports } := by
  unfold State.framed
  rw [State.holdReading_eq, State.reviewGauge_eq]
  rfl

theorem State.framed_gauge (s : State) (c : Comp) (f : GaugeFrame) :
    (s.framed c f).gauge = s.gauge.set c
      { ((s.gauge.get c).takeFrame f s.switches.brakeReleased (some (s.now + 5000))).reviewed
          ((s.frameTaken c f).gaugeStateOf c) s.clock.counter (some (s.now + 60000)) with
        lastValid :=
          if (s.frameTaken c f).gaugeStateOf c = .valid then some (s.gaugeReading c f)
          else (s.gauge.get c).lastValid } := by
  unfold State.framed
  rw [State.holdReading_eq, State.heldReading, State.reviewGauge_eq]
  simp only [PerComp.get_set_same, Gauge.reviewed_state, Gauge.reviewed_lastValid, PerComp.set_set]
  simp only [State.frameTaken, State.modGauge, PerComp.get_set_same, PerComp.set_set]
  rfl

/-- The gauge's state after a frame is the one its readings call for. -/
theorem State.framed_state (s : State) (c : Comp) (f : GaugeFrame) :
    ((s.framed c f).gauge.get c).state = (s.framed c f).gaugeStateOf c := by
  have unread : (s.framed c f).gaugeStateOf c = (s.frameTaken c f).gaugeStateOf c := by
    have kept := ((s.gauge.get c).takeFrame f s.switches.brakeReleased (some (s.now + 5000))).reviewed_kept
      ((s.frameTaken c f).gaugeStateOf c) s.clock.counter (some (s.now + 60000))
    have taken : (s.frameTaken c f).gauge.get c
        = (s.gauge.get c).takeFrame f s.switches.brakeReleased (some (s.now + 5000)) := PerComp.get_set_same _ _ _
    refine State.gaugeStateOf_congr ?_ ?_ ?_
    · rw [State.framed_gauge, PerComp.get_set_same, taken]
      exact kept
    · rw [State.framed_frame]; rfl
    · rw [State.framed_frame]; rfl
  rw [unread, State.framed_gauge, PerComp.get_set_same]
  exact Gauge.reviewed_state _ _ _ _

theorem State.framed_receipts_ne (f : GaugeFrame) (other : d ≠ c) : (s.framed c f).receipts.get d = s.receipts.get d := by
  unfold State.framed
  rw [State.holdReading_eq]
  exact (State.reviewGauge_receipts_ne other).trans rfl

theorem State.framed_receipt_state (s : State) (c : Comp) (f : GaugeFrame) :
    ((s.framed c f).receipts.get c).state = (s.receipts.get c).state := by
  unfold State.framed
  rw [State.holdReading_eq]
  exact (State.reviewGauge_receipt_state _ c).trans rfl

/-- A frame's effect on a fill, on the other compartment and on everything else (R145). -/
theorem State.probed_frame (s : State) (c : Comp) (f : GaugeFrame) :
    let w := (s.framed c f).checkHighHigh c
    w = { s with gauge := (s.framed c f).gauge, receipts := w.receipts, ports := w.ports }
      ∧ ∀ d, d ≠ c → w.gauge.get d = s.gauge.get d ∧ w.receipts.get d = s.receipts.get d := by
  intro w
  have flat : w = { s with gauge := (s.framed c f).gauge, receipts := w.receipts, ports := w.ports } := by
    unfold w
    rw [State.checkHighHigh_frame, State.framed_frame]
  refine ⟨flat, fun d other => ⟨?_, ?_⟩⟩
  · rw [flat, State.framed_gauge]
    exact PerComp.get_set_ne _ _ other
  · exact (State.checkHighHigh_receipts_ne other).trans (State.framed_receipts_ne f other)

theorem State.framed_atHighHigh {f : GaugeFrame} (ok : f.ok = true) (high : s.cal.highHigh.get c ≤ f.level) :
    (s.framed c f).atHighHigh c = true := by
  have latest : ((s.framed c f).gauge.get c).latest = some f := by
    rw [State.framed_gauge, PerComp.get_set_same]
    exact (Gauge.reviewed_kept _ _ _ _).1
  unfold State.atHighHigh
  rw [latest, State.framed_frame]
  simp [ok, high]

/-! ### The variance monitor (R130, R131) -/

/-- A check that is due (R131). -/
theorem State.checkVariance_due {r : GaugeReading} (due : s.varianceDue c = true)
    (reading : (s.gauge.get c).lastValid = some r) :
    s.checkVariance c =
      { s with
        gauge := s.gauge.set c
          { s.gauge.get c with
            spacing := some (s.now + 600000)
            lastCheck := some ⟨r.net - (s.stock.get c).book, s.varianceTolerance c,
              decide (s.varianceTolerance c < (r.net - (s.stock.get c).book).natAbs), s.clock.counter⟩ }
        ports := if s.varianceTolerance c < (r.net - (s.stock.get c).book).natAbs then (s.raise .stockVariance).ports
          else s.ports } := by
  unfold State.checkVariance
  rw [due, reading]
  by_cases beyond : s.varianceTolerance c < (r.net - (s.stock.get c).book).natAbs
  · simp only [beyond, decide_true, if_true]
    rfl
  · simp only [beyond, decide_false, if_false]
    rfl

theorem State.checkVariance_rests (rests : s.varianceDue c = false) : s.checkVariance c = s := by
  unfold State.checkVariance
  rw [rests]

/-- With neither timer running a check is due exactly in the four conditions of R130. -/
theorem State.varianceDue_iff (qualified : (s.gauge.get c).validQualification = none)
    (spaced : (s.gauge.get c).spacing = none) :
    s.varianceDue c = true ↔ s.supply = .normal ∧ s.compIdle c = true ∧ (s.receipts.get c).state = .closed
      ∧ (s.gauge.get c).state = .valid := by
  simp [State.varianceDue, State.isNormal, qualified, spaced, and_assoc]

/-- Where one timer of the variance monitor runs, its expiry leaves neither, and a check. -/
theorem exec_variance_expiry {i : Instr}
    (which : (i = .validQualificationExpiry c ∧ (s.gauge.get c).validQualification.isSome = true
        ∧ (s.gauge.get c).spacing = none)
      ∨ (i = .spacingTimerExpiry c ∧ (s.gauge.get c).spacing.isSome = true
        ∧ (s.gauge.get c).validQualification = none)) :
    exec i s =
      ((s.modGauge c fun g => { g with validQualification := none, spacing := none }).checkVariance c).finish := by
  rcases which with ⟨rfl, runs, none⟩ | ⟨rfl, runs, none⟩
  · have e : (s.modGauge c fun g => { g with validQualification := Option.none })
        = s.modGauge c fun g => { g with validQualification := Option.none, spacing := Option.none } := by
      simp only [State.modGauge, ← none]
    rw [← e]
    exact congrArg State.finish (if_pos runs)
  · have e : (s.modGauge c fun g => { g with spacing := Option.none })
        = s.modGauge c fun g => { g with validQualification := Option.none, spacing := Option.none } := by
      simp only [State.modGauge, ← none]
    rw [← e]
    exact congrArg State.finish (if_pos runs)

/-- Settles O57. -/
theorem gaugeEvents : Obligations.GaugeEvents := by
  intro s c g
  refine ⟨fun level temp ok => ?_, fun runs => ?_, fun pitch roll => ?_, fun runs => ?_, fun i which => ?_⟩
  · intro f
    have run : exec (.probeFrame c level temp ok) s = ((s.framed c f).checkHighHigh c).finish := by
      unfold f
      rw [← clampInt_eq (by decide)]
      rfl
    have state := s.framed_state c f
    have gauge := s.framed_gauge c f
    obtain ⟨flat, others⟩ := s.probed_frame c f
    have trips (normal : s.supply = .normal) (filling : (s.receipts.get c).state = .filling) (fine : ok = true)
        (high : s.cal.highHigh.get c ≤ f.level) :=
      State.checkHighHigh_trips (s := s.framed c f) (c := c) (by rw [State.framed_frame]; exact normal)
        ((s.framed_receipt_state c f).trans filling) (State.framed_atHighHigh fine high)
    have clock : (s.framed c f).clock = s.clock := by rw [State.framed_frame]
    have reviewed : ((s.framed c f).checkHighHigh c).gaugeStateOf c = (s.framed c f).gaugeStateOf c := by
      rw [State.checkHighHigh_frame]
      exact State.gaugeStateOf_congr ⟨rfl, rfl, rfl⟩ rfl rfl
    rw [← reviewed] at state
    have standing : (s.frameTaken c f).gaugeStateOf c = ((s.framed c f).gauge.get c).state := by
      rw [gauge, PerComp.get_set_same]
      exact (Gauge.reviewed_state _ _ _ _).symm
    have kept := ((s.gauge.get c).takeFrame f s.switches.brakeReleased (some (s.now + 5000))).reviewed_kept
      ((s.frameTaken c f).gaugeStateOf c) s.clock.counter (some (s.now + 60000))
    obtain ⟨latest, timer, history⟩ := kept
    have held : ((s.framed c f).gauge.get c).lastValid =
        if ((s.framed c f).gauge.get c).state = .valid then some (s.gaugeReading c f) else g.lastValid := by
      rw [← standing, gauge, PerComp.get_set_same]
    have same : (s.framed c f).gauge.get c = _ := (congrArg (fun x => x.get c) gauge).trans (PerComp.get_set_same _ _ _)
    have taken : ((s.framed c f).gauge.get c).history =
        if ok = true ∧ s.switches.brakeReleased = false then pushLevel g.history f.level else [] := by
      rw [same]
      refine history.trans ?_
      simp [Gauge.takeFrame, f, g]
    generalize (s.framed c f).checkHighHigh c = w at *
    have gauges : w.gauge = (s.framed c f).gauge := by rw [flat]
    rw [← gauges] at state held taken same
    refine ⟨_, run.trans (State.finish_eq _), ?_, ?_, taken, state, fun few valid => ?_, held,
      fun normal filling fine high => ?_, others, ?_⟩
    · exact (congrArg Gauge.latest same).trans latest
    · exact (congrArg Gauge.absenceTimer same).trans timer
    · exact State.gaugeStateOf_short few (state.symm.trans valid)
    · obtain ⟨receipt, flag⟩ := trips normal filling fine high
      refine ⟨congrArg Receipt.state receipt, congrArg Receipt.overfillTrip receipt,
        (congrArg Receipt.fillEnd receipt).trans ?_, flag⟩
      rw [← clock]
      rfl
    · rw [flat]
  · have run : exec (.frameAbsenceExpiry c) s =
        ((s.modGauge c fun g => { g with absenceTimer := none, history := [] }).reviewGauge c).finish :=
      congrArg State.finish (if_pos runs)
    let u := s.modGauge c fun g => { g with absenceTimer := none, history := [] }
    have silent : u.gauge.get c = { g with absenceTimer := none, history := [] } := PerComp.get_set_same _ _ _
    have absent : u.gaugeStateOf c = .absent := State.gaugeStateOf_absent (by rw [silent])
    have gauge : (u.reviewGauge c).gauge.get c =
        ({ g with absenceTimer := none, history := [] } : Gauge).reviewed .absent s.clock.counter
          (some (s.now + 60000)) := by
      rw [State.reviewGauge_eq, PerComp.get_set_same, silent, absent]
      rfl
    have others (d : Comp) (other : d ≠ c) :
        (u.reviewGauge c).gauge.get d = s.gauge.get d ∧ (u.reviewGauge c).receipts.get d = s.receipts.get d :=
      ⟨(State.reviewGauge_gauge_ne other).trans (PerComp.get_set_ne _ _ other), State.reviewGauge_receipts_ne other⟩
    have flat : u.reviewGauge c =
        { s with
          gauge := (u.reviewGauge c).gauge, receipts := (u.reviewGauge c).receipts
          ports := (u.reviewGauge c).ports } := by
      rw [State.reviewGauge_eq]
      rfl
    obtain ⟨latest, timer, history⟩ :=
      ({ g with absenceTimer := none, history := [] } : Gauge).reviewed_kept .absent s.clock.counter
        (some (s.now + 60000))
    generalize u.reviewGauge c = w at *
    rw [flat] at run
    rw [← gauge] at latest timer history
    refine ⟨_, run.trans (State.finish_eq _), ?_, history, timer, latest, ?_, fun valid => ?_, others, rfl⟩
    · exact (congrArg Gauge.state gauge).trans (Gauge.reviewed_state _ _ _ _)
    · exact (congrArg Gauge.lastValid gauge).trans (Gauge.reviewed_lastValid _ _ _ _)
    · have left := Gauge.reviewed_leaves_valid (g := { g with absenceTimer := none, history := [] }) (st := .absent)
        s.clock.counter (some (s.now + 60000)) valid (by decide)
      rwa [← gauge] at left
  · let u : State := { s with tilt := ⟨some ⟨pitch, roll⟩, some (s.now + 2000)⟩ }
    have run : exec (.inclinometerReading pitch roll) s = u.reviewGauges.finish := rfl
    have states := u.reviewGauges_state
    have frame := u.reviewGauges_frame
    generalize u.reviewGauges = w at *
    refine ⟨_, run.trans (State.finish_eq _), ?_, states, ?_⟩
    · rw [frame]
    · rw [frame]
  · let u : State := { s with tilt := { s.tilt with absenceTimer := none } }
    have run : exec .readingAbsenceExpiry s = u.reviewGauges.finish := congrArg State.finish (if_pos runs)
    have states := u.reviewGauges_state
    have frame := u.reviewGauges_frame
    generalize u.reviewGauges = w at *
    refine ⟨_, run.trans (State.finish_eq _), ?_, fun d => ⟨states d, ?_⟩, ?_⟩
    · rw [frame]
    · have beyond : w.tiltBeyond = true := by
        rw [frame]
        unfold State.tiltBeyond
        split
        · rfl
        · rfl
      exact fun valid => State.gaugeStateOf_tilted beyond ((states d).symm.trans valid)
    · rw [frame]
  · have run := exec_variance_expiry which
    let u := s.modGauge c fun g => { g with validQualification := none, spacing := none }
    have stilled : u.gauge.get c = { g with validQualification := none, spacing := none } := PerComp.get_set_same _ _ _
    intro due
    have iff : u.varianceDue c = true ↔ due := by
      rw [State.varianceDue_iff (by rw [stilled]) (by rw [stilled]), stilled]
      rfl
    refine ⟨fun rests => ?_, fun falls r reading => ?_⟩
    · rw [State.checkVariance_rests (Bool.eq_false_iff.mpr (iff.not.mpr rests))] at run
      exact ⟨_, run.trans (State.finish_eq _), rfl⟩
    · intro book tolerance beyond
      rw [State.checkVariance_due (s := u) (iff.mpr falls) (by rw [stilled]; exact reading), stilled] at run
      refine ⟨_, run.trans (State.finish_eq _), PerComp.set_set _ _ _ _, ?_, rfl⟩
      simp only [beyond, decide_eq_true_eq]
      rfl

end Sys2Proof.Machine
end

section
/-! The link states of the tag readers (R51 to R53, R68). -/

namespace Sys2Proof.Machine

open Sys2Proof

variable {s t u w : State} {p : Port} {h k : Hose} {c d : Comp} {r q : Reader}

/-! ### One reader's change -/

theorem State.modReader_frame (s : State) (r : Reader) (f : ReaderState → ReaderState) :
    s.modReader r f =
      { s with nozzleReader := (s.modReader r f).nozzleReader, panelReader := (s.modReader r f).panelReader } := by
  cases r <;> rfl

theorem State.modReader_reader_ne (f : ReaderState → ReaderState) (other : q ≠ r) :
    (s.modReader r f).reader q = s.reader q := by
  cases r with
  | pr =>
    cases q with
    | pr => exact absurd rfl other
    | nr k => rfl
  | nr h =>
    cases q with
    | pr => rfl
    | nr k => exact PerHose.get_set_ne _ _ fun e => other (congrArg Reader.nr e)

/-- A state whose readers are those of `w`, where one reader of `s` has changed. -/
theorem readers_changed {f : ReaderState → ReaderState} (nozzles : t.nozzleReader = (s.modReader r f).nozzleReader)
    (panel : t.panelReader = (s.modReader r f).panelReader) :
    t.reader r = f (s.reader r) ∧ ∀ q, q ≠ r → t.reader q = s.reader q := by
  have all (q : Reader) : t.reader q = (s.modReader r f).reader q := by
    cases q with
    | nr k => exact congrArg (fun x => x.get k) nozzles
    | pr => exact panel
  exact ⟨(all r).trans (State.modReader_reader s r f), fun q other => (all q).trans (State.modReader_reader_ne f other)⟩

/-- A reader's change, with the line outputs that follow. -/
theorem reader_becomes {i : Instr} {f : ReaderState → ReaderState} (run : exec i s = (s.modReader r f).finish) :
    ∃ t, exec i s = .next t ∧ t.reader r = f (s.reader r) ∧ (∀ q, q ≠ r → t.reader q = s.reader q)
      ∧ t = { s with nozzleReader := t.nozzleReader, panelReader := t.panelReader, out := t.out } := by
  rw [State.modReader_frame] at run
  obtain ⟨changed, others⟩ := readers_changed (s := s) (r := r) (f := f)
    (t := { (s.modReader r f) with out := s.outputs }) rfl rfl
  exact ⟨_, run.trans (State.finish_eq _), changed, others, rfl⟩

/-- A reader with both qualify timers running (R51, R52). -/
def ReaderState.qualified (x : ReaderState) (now : Nat) : ReaderState :=
  { x with
    link := .qualifying, stableTimer := some (now + 250), qualifyLimit := some (now + 1000)
    retryTimer := none, pollTimer := none, held := none, misses := 0, fetchLeft := 0, fetchUnanswered := 0 }

theorem State.startQualifying_eq (s : State) (r : Reader) :
    s.startQualifying r = s.modReader r fun x => x.qualified s.now := rfl

theorem State.discardPending_pendingTag (s : State) (r : Reader) (h : Hose) :
    (s.discardPending r).pendingTag.get h = if r = .nr h then false else s.pendingTag.get h := by
  cases r with
  | pr => simp [State.discardPending]
  | nr k =>
    by_cases same : h = k
    · subst same
      simp [State.discardPending, State.setPendingTag]
    · have other : ¬ Reader.nr k = Reader.nr h := fun e => same (Reader.nr.inj e).symm
      simp [State.discardPending, State.setPendingTag, same, other]

/-- The readers of a state with what a field lost or a fault leaves of them. -/
def State.withReader (s : State) (r : Reader) (f : ReaderState → ReaderState) : State :=
  { s with
    nozzleReader := (s.modReader r f).nozzleReader, panelReader := (s.modReader r f).panelReader
    pendingTag := (s.discardPending r).pendingTag }

/-- What a change of one reader that discards its pending tag leaves. -/
theorem State.withReader_facts (s : State) (r : Reader) (f : ReaderState → ReaderState) (o : Outputs)
    (e : t = { s.withReader r f with ports := t.ports, out := o }) :
    t.reader r = f (s.reader r) ∧ (∀ q, q ≠ r → t.reader q = s.reader q)
      ∧ (∀ h, t.pendingTag.get h = if r = .nr h then false else s.pendingTag.get h) := by
  obtain ⟨changed, others⟩ := readers_changed (t := t) (s := s) (r := r) (f := f) (by rw [e]; rfl) (by rw [e]; rfl)
  exact ⟨changed, others, fun h => by rw [e]; exact s.discardPending_pendingTag r h⟩

theorem State.fieldLost_eq (s : State) (r : Reader) :
    (s.discardPending r).startQualifying r = s.withReader r fun x => x.qualified s.now := by
  cases r <;> rfl

theorem LinkState.polls_of {l : LinkState} (either : l = .listening ∨ l = .tagPresent) : l.polls = true := by
  rcases either with e | e <;> rw [e] <;> rfl

/-- A reader in FAULT (R51, R52; log 16). -/
def ReaderState.faulted (x : ReaderState) (retry : Timer) (counter : Nat) : ReaderState :=
  { x with
    link := .fault, stableTimer := none, qualifyLimit := none, pollTimer := none, retryTimer := retry
    held := none, misses := 0, fetchLeft := 0, fetchUnanswered := 0
    lastEvent := some ⟨.readerFault, none, counter⟩ }

/-- The retry timer that starts at the entry to FAULT (R52). -/
def State.retryOf (s : State) (r : Reader) : Timer := if r = .pr then some (s.now + 10000) else none

/-- The entry to FAULT (R51). -/
theorem State.enterFault_eq (acts : (s.reader r).link ≠ .off) :
    s.enterFault r =
      { (s.withReader r fun x => x.faulted (s.retryOf r) s.clock.counter) with
        ports := (s.raise .tagEvent).ports } := by
  have can : (s.reader r).link.canFault = true := by
    cases link : (s.reader r).link <;> simp_all [LinkState.canFault]
  unfold State.enterFault
  rw [if_pos can]
  cases r with
  | pr => rfl
  | nr h =>
    simp only [State.setTagEvent, State.discardPending, State.setPendingTag, State.modReader, PerHose.get_set_same,
      PerHose.set_set]
    rfl

/-- What takes a reader to FAULT where the supply is NORMAL. -/
theorem exec_reader_fault {i : Instr} (normal : s.supply = .normal)
    (which : (i = .qualifyLimitExpiry r ∧ (s.reader r).link = .qualifying ∧ (s.reader r).qualifyLimit.isSome = true)
      ∨ (i = .frontEndFault r ∧ (s.reader r).link ≠ .off)
      ∨ (i = .pollResult r .fault ∧ ((s.reader r).link = .qualifying ∨ (s.reader r).link = .fault))) :
    exec i s = (s.enterFault r).finish ∧ (s.reader r).link ≠ .off := by
  have awake : s.isNormal = true := by simp [State.isNormal, normal]
  rcases which with ⟨rfl, link, limit⟩ | ⟨rfl, link⟩ | ⟨rfl, link⟩
  · exact ⟨congrArg State.finish (if_pos (by simp [limit, link])), by rw [link]; decide⟩
  · exact ⟨congrArg State.finish (if_pos awake), link⟩
  · refine ⟨congrArg State.finish ((if_pos awake).trans ?_), by rcases link with e | e <;> rw [e] <;> decide⟩
    unfold State.takePoll
    rcases link with e | e <;> rw [e] <;> rfl

/-- Settles O54. -/
theorem readerStates : Obligations.ReaderStates := by
  intro s r normal x qualifying becomes
  have awake : s.isNormal = true := by simp [State.isNormal, normal]
  refine ⟨fun link => ?_, fun link stable => ?_, fun link poll => ?_, fun panel link retry => ?_, fun link => ?_,
    fun i which => ?_, fun off => ?_, fun opened => ?_⟩
  · have run : exec (.fieldUnsettled r) s =
        (s.modReader r fun x => { x with stableTimer := some (s.now + 250) }).finish :=
      congrArg State.finish (if_pos (by rw [awake, show (s.reader r).link = _ from link]; rfl))
    exact reader_becomes run
  · have run : exec (.stableFieldExpiry r) s =
        (s.modReader r fun x =>
          { x with
            link := .listening, stableTimer := none, qualifyLimit := none, pollTimer := some (s.now + 200) }).finish :=
      congrArg State.finish (if_pos (by
        rw [show (s.reader r).stableTimer.isSome = true from stable, show (s.reader r).link = _ from link]; rfl))
    exact reader_becomes run
  · have run : exec (.pollTimerExpiry r) s =
        (s.modReader r fun x => { x with pollTimer := some (s.now + 200) }).finish :=
      congrArg State.finish (if_pos (by
        rw [show (s.reader r).pollTimer.isSome = true from poll, LinkState.polls_of link]; rfl))
    exact reader_becomes run
  · subst panel
    have run : exec .retryTimerExpiry s = (s.modReader .pr fun x => x.qualified s.now).finish :=
      congrArg State.finish (if_pos (by
        rw [show s.panelReader.retryTimer.isSome = true from retry, show s.panelReader.link = _ from link]; rfl))
    exact reader_becomes run
  · have run : exec (.fieldLost r) s = ((s.discardPending r).startQualifying r).finish :=
      congrArg State.finish (if_pos (by rw [awake, LinkState.polls_of link]; rfl))
    have lost := s.fieldLost_eq r
    generalize (s.discardPending r).startQualifying r = w at run lost
    obtain ⟨changed, others, tags⟩ :=
      State.withReader_facts s r _ w.outputs (t := { w with out := w.outputs }) (by rw [lost])
    refine ⟨_, run.trans (State.finish_eq _), changed, others, tags, ?_⟩
    rw [lost]
    rfl
  · obtain ⟨run, link⟩ := exec_reader_fault normal which
    have fault := State.enterFault_eq link
    generalize s.enterFault r = w at run fault
    obtain ⟨changed, others, tags⟩ :=
      State.withReader_facts s r _ w.outputs (t := { w with out := w.outputs }) (by rw [fault])
    refine ⟨_, run.trans (State.finish_eq _), changed, others, tags, ?_, ?_⟩
    · rw [fault]
    · rw [fault]
      rfl
  · have run : exec (.frontEndFault r) s = (s.enterFault r).finish := congrArg State.finish (if_pos awake)
    rw [s.enterFault_off off] at run
    exact ⟨_, run.trans (State.finish_eq _), rfl⟩
  · have run : exec .supervisorWindowExpiry s =
        (({ s with supervisor := none } : State).setTagEvent .pr .supervisorClosed none).finish :=
      congrArg State.finish (if_pos opened)
    exact ⟨_, run.trans (State.finish_eq _), rfl⟩

end Sys2Proof.Machine
end

section
/-! Poll results and presence tracking (R54 to R58, R64 to R68, R82). -/

namespace Sys2Proof.Machine

open Sys2Proof

variable {s t u w : State} {p : Port} {h k : Hose} {c d : Comp} {r q : Reader} {b : BasePage} {tag : HeldTag}

/-! ### A base page that a listening reader takes (R54) -/

theorem exec_base_page (normal : s.supply = .normal) (link : (s.reader r).link = .listening)
    (accepted : acceptedTag r b = some tag) :
    exec (.pollResult r (.basePage b (baseCheck b))) s =
      ((s.acceptPage r tag b).pollPresence s r (.basePage b (baseCheck b))).finish := by
  have checked : checkedAnswer (.basePage b (baseCheck b)) = .basePage b (baseCheck b) := if_pos rfl
  have taken : s.pollListening r (.basePage b (baseCheck b)) = s.acceptPage r tag b := by
    simp only [State.pollListening, accepted]
  refine congrArg State.finish ((if_pos (by simp [State.isNormal, normal])).trans ?_)
  unfold State.takePoll
  rw [checked, link, ← taken]

/-- A page at PR acts at once (R54, R67, R68). -/
theorem exec_panel_page (normal : s.supply = .normal) (link : s.panelReader.link = .listening)
    (accepted : acceptedTag .pr b = some tag) :
    exec (.pollResult .pr (.basePage b (baseCheck b))) s = (s.acceptPage .pr tag b).finish :=
  exec_base_page (r := .pr) normal link accepted

/-- Tracking that does not run takes no presence result (R64). -/
theorem State.pollPresence_untracked (a : PollAnswer) (before : State) (rests : (before.tracking.get h).running = false) :
    s.pollPresence before (.nr h) a = s := if_neg (by simp [rests])

/-! ### The supervisor at PR (R68, R82) -/

/-- A slot under the OVERRIDE method waits for no hours (R98). -/
theorem State.lookupCompleted_override (method : (s.slots.get h).method = some .override) :
    s.lookupCompleted h = s.attempt h := by
  unfold State.lookupCompleted
  split
  · next none => simp only [State.attempt, none]
  · rw [if_neg (by simp [State.needsHours, method])]

/-- A served slot with the entry it is given. -/
def State.served (s : State) (h : Hose) (way : WayRef) : PerHose Slot :=
  s.slots.set h { s.slots.get h with method := some .override, entry := some way }

theorem State.serveOverride_hit {m : Nat} {way : WayRef} (waits : s.slotState h = .overrideWait)
    (machine : (s.slots.get h).machine = some m) (hit : s.roster.findWay m = some way) :
    s.serveOverride h = ({ s with slots := s.served h way, roster := s.roster.pin way } : State).attempt h := by
  have given : s.serveOverride h =
      (s.modSlot h fun x => { x with method := some .override }).giveEntry h way := by
    unfold State.serveOverride
    simp only [waits, machine, hit]
  rw [given, State.giveEntry, State.lookupCompleted_override (by simp)]
  simp only [State.modSlot, State.modRoster, PerHose.get_set_same, PerHose.set_set]
  rfl

theorem State.serveOverride_miss {m : Nat} (waits : s.slotState h = .overrideWait)
    (machine : (s.slots.get h).machine = some m) (miss : s.roster.findWay m = none) :
    s.serveOverride h =
      ({ s with
        slots := s.served h (s.roster.victimWay m)
        roster := (s.roster.fill (provisionalBody s.roster.site m) .provisional).pin (s.roster.victimWay m)
        ports := (s.raise .provisional).ports } : State).attempt h := by
  have found : (s.roster.fill (provisionalBody s.roster.site m) .provisional).findWay m
      = some (s.roster.victimWay m) :=
    Roster.findWay_fill (b := provisionalBody s.roster.site m) .provisional miss
  have given : s.serveOverride h =
      (((s.modSlot h fun x => { x with method := some .override }).modRoster fun r =>
        r.fill (provisionalBody r.site m) .provisional).raise .provisional).giveEntry h (s.roster.victimWay m) := by
    unfold State.serveOverride
    simp only [waits, machine, miss, State.raise_roster, State.modRoster_roster, State.modSlot_roster, found]
  rw [given, State.giveEntry, State.lookupCompleted_override (by simp)]
  simp only [State.modSlot, State.modRoster, State.raise, PerHose.get_set_same, PerHose.set_set]
  rfl

theorem State.serveOverrides_rest (none : ∀ k, s.slotState k ≠ .overrideWait) : s.serveOverrides = s := by
  unfold State.serveOverrides
  rw [State.serveOverride_rests .h1 (none .h1), State.serveOverride_rests .h2 (none .h2),
    State.serveOverride_rests .h3 (none .h3)]

theorem State.serveOverrides_one (alone : ∀ k, k ≠ h → s.slotState k ≠ .overrideWait) :
    s.serveOverrides = s.serveOverride h :=
  only_one_acts (rest := fun _ st => st ≠ .overrideWait) (f := fun k x => x.serveOverride k)
    (fun k x => sameOtherHoses.serveOverride x k) (fun k _ rests => State.serveOverride_rests k rests) alone

/-- The way an entry is filled into, pinned for its slot (R72, R74). -/
theorem Roster.entryAt_pin_fill (r : Roster) (b : EntryBody) (o : Origin) (w : WayRef) :
    ((r.fill b o).pin (r.victimWay b.machine)).entryAt w =
      if w = r.victimWay b.machine then some ⟨r.checkedBody b, o, 1, none⟩ else r.entryAt w := by
  rw [Roster.entryAt_pin, Roster.entryAt_fill, Roster.entryAt_fill, if_pos rfl]
  split <;> rfl

/-! ### A machine tag at a nozzle (R54, R55, R58) -/

theorem State.endExchange_claimed (held : (s.nozzleReader.get h).held = some tag) (claimed : s.pendingTag.get h = true)
    (ident : s.slotState h = .ident) :
    s.endExchange h =
      (s.setPendingTag h false).identify h ((s.nozzleReader.get h).identification tag.number) := by
  unfold State.endExchange
  simp only [held, claimed, if_true]
  exact if_pos ident

theorem State.endExchange_aside (ident : s.slotState h ≠ .ident) (waits : (s.slotState h).identified = false) :
    s.endExchange h = { s with pendingTag := (s.endExchange h).pendingTag } := by
  have either : s.endExchange h = s.setPendingTag h false ∨ s.endExchange h = s := by
    unfold State.endExchange
    simp only
    split
    · exact .inl rfl
    · split
      · exact .inl rfl
      · exact .inr (if_neg (by simp [waits]))
  rcases either with e | e <;> rw [e]
  rfl

/-- A claim that is taken back. -/
theorem State.setPendingTag_back (free : s.pendingTag.get h = false) : (s.setPendingTag h true).setPendingTag h false = s := by
  have same : s.pendingTag.set h false = s.pendingTag := by
    rw [← free]
    cases h <;> rfl
  simp only [State.setPendingTag, PerHose.set_set, same]

theorem SlotState.aside_of_running {st : SlotState} (runs : st.running = true) : st ≠ .ident ∧ st.identified = false := by
  cases st <;> first | exact ⟨by decide, rfl⟩ | cases runs

/-- A page taken by a nozzle reader whose slot runs already (R54, R58). -/
theorem State.acceptMachine_aside (runs : (s.slotState h).running = true) :
    s.acceptMachine h tag b =
      { s with
        nozzleReader := s.nozzleReader.set h ((s.nozzleReader.get h).accept tag b (pageNextCount b))
        pendingTag := (s.acceptMachine h tag b).pendingTag } := by
  obtain ⟨ident, waits⟩ := SlotState.aside_of_running runs
  have unclaimed : ¬ (s.slotState h = .ident ∧ s.pendingTag.get h = false) := fun both => ident both.1
  have used : ¬ ((s.slotState h).identified = true ∧ (s.slots.get h).machine ≠ some tag.number) := by simp [waits]
  unfold State.acceptMachine
  simp only
  rw [if_neg unclaimed, if_neg used]
  split
  · rw [State.endExchange_aside (by exact ident) (by exact waits)]
    rfl
  · rfl

/-- The page that claims a slot in IDENT, with pages to fetch (R54, R55). -/
theorem State.acceptMachine_fetches (ident : s.slotState h = .ident) (free : s.pendingTag.get h = false)
    (pages : 0 < pageNextCount b) :
    s.acceptMachine h tag b =
      { s with
        nozzleReader := s.nozzleReader.set h ((s.nozzleReader.get h).accept tag b (pageNextCount b))
        pendingTag := s.pendingTag.set h true } := by
  unfold State.acceptMachine
  simp only
  rw [if_neg pages.ne', if_pos ⟨ident, free⟩]
  rfl

/-- The page that identifies a slot in IDENT at once (R54, R58). -/
theorem State.acceptMachine_identifies (ident : s.slotState h = .ident) (free : s.pendingTag.get h = false)
    (last : pageNextCount b = 0) :
    s.acceptMachine h tag b =
      ({ s with nozzleReader := s.nozzleReader.set h ((s.nozzleReader.get h).accept tag b 0) } : State).identify h
        ⟨tag.number, .tag, some (pageInlet b), none, none⟩ := by
  let t : State := { s with nozzleReader := s.nozzleReader.set h ((s.nozzleReader.get h).accept tag b 0) }
  have reader : t.nozzleReader.get h = (s.nozzleReader.get h).accept tag b 0 := PerHose.get_set_same _ _ _
  have claimed : s.acceptMachine h tag b = (t.setPendingTag h true).endExchange h := by
    unfold State.acceptMachine
    simp only
    rw [if_pos last, if_pos ⟨ident, free⟩, last]
    rfl
  have held : ((t.setPendingTag h true).nozzleReader.get h).held = some tag := congrArg ReaderState.held reader
  have ended := State.endExchange_claimed (s := t.setPendingTag h true) held (PerHose.get_set_same _ _ _) ident
  have back : (t.setPendingTag h true).setPendingTag h false = t := State.setPendingTag_back free
  have handed : ((t.setPendingTag h true).nozzleReader.get h).identification tag.number
      = ⟨tag.number, .tag, some (pageInlet b), none, none⟩ :=
    congrArg (fun x => ReaderState.identification x tag.number) reader
  rw [claimed, ended, back, handed]

/-- Another machine's tag on a tracked hose (R66). -/
theorem State.presenceOf_mismatch (k : Byte) (accepted : acceptedTag (.nr h) b = some tag)
    (other : (s.slots.get h).machine ≠ some tag.number) :
    s.presenceOf h (.basePage b k) = .mismatch tag.number := by
  unfold State.presenceOf
  simp only [accepted]
  exact if_neg other

/-- Another machine's tag closes a tracked slot (R66). -/
theorem State.acceptMachine_mismatch (k : Byte) (accepted : acceptedTag (.nr h) b = some tag)
    (tracked : (s.tracking.get h).running = true) (runs : (s.slotState h).running = true)
    (other : (s.slots.get h).machine ≠ some tag.number) :
    (s.acceptMachine h tag b).pollPresence s (.nr h) (.basePage b k) =
      { s with
        nozzleReader := s.nozzleReader.set h
          { (s.nozzleReader.get h).accept tag b (pageNextCount b) with
            lastEvent := some ⟨.tagNotUsed, some tag.number, s.clock.counter⟩ }
        pendingTag := (s.acceptMachine h tag b).pendingTag
        slots := s.slots.set h { s.slots.get h with state := .closing, endCause := some .tagMismatch }
        hoseCtl := s.hoseCtl.set h ((s.hoseCtl.get h).settling (s.timer 1500))
        tracking := s.tracking.set h { s.tracking.get h with running := false, restoreWindow := none }
        pumps := ((s.acceptMachine h tag b).pollPresence s (.nr h) (.basePage b k)).pumps
        ports := ((s.acceptMachine h tag b).pollPresence s (.nr h) (.basePage b k)).ports } := by
  have taken := State.acceptMachine_aside (tag := tag) (b := b) runs
  have mismatch := State.presenceOf_mismatch k accepted other
  generalize s.acceptMachine h tag b = v at *
  have still : v.tracking = s.tracking := by rw [taken]
  have closes : v.pollPresence s (.nr h) (.basePage b k) =
      (v.setTagEvent (.nr h) .tagNotUsed (some tag.number)).enterClosing h .tagMismatch := by
    unfold State.pollPresence
    simp only
    rw [still, tracked, mismatch]
    rfl
  have event : v.setTagEvent (.nr h) .tagNotUsed (some tag.number) =
      { s with
        nozzleReader := s.nozzleReader.set h
          { (s.nozzleReader.get h).accept tag b (pageNextCount b) with
            lastEvent := some ⟨.tagNotUsed, some tag.number, s.clock.counter⟩ }
        pendingTag := v.pendingTag, ports := (s.raise .tagEvent).ports } := by
    rw [taken]
    simp only [State.setTagEvent, State.modReader, PerHose.get_set_same, PerHose.set_set]
    rfl
  rw [closes, event, State.enterClosing_eq _ (by exact runs)]
  rfl

/-! ### Misses (R56, R64, R65) -/

theorem State.pollPresent_noAnswer (fetched : (s.reader r).fetchLeft = 0) :
    s.pollPresent r .noAnswer = s.tagMissed r := by
  unfold State.pollPresent State.pageUnanswered
  rw [if_pos fetched]

theorem State.modReader_congr {f g : ReaderState → ReaderState} (same : f (s.reader r) = g (s.reader r)) :
    s.modReader r f = s.modReader r g := by
  cases r with
  | pr => exact congrArg (fun x => ({ s with panelReader := x } : State)) same
  | nr h => exact congrArg (fun x => ({ s with nozzleReader := s.nozzleReader.set h x } : State)) same

/-- A missed poll outside a page fetch (R56). -/
def ReaderState.missed (x : ReaderState) : ReaderState :=
  if 2 ≤ x.misses then { x with link := .listening, held := none, misses := 0, fetchUnanswered := 0 }
  else { x with misses := x.misses + 1 }

theorem State.tagMissed_unfetched (fetched : (s.reader r).fetchLeft = 0) (link : (s.reader r).link = .tagPresent) :
    s.tagMissed r = s.modReader r ReaderState.missed := by
  have fetch : s.breakFetch r = s := if_pos fetched
  unfold State.tagMissed
  rw [fetch]
  split
  · next many =>
    refine State.modReader_congr ?_
    simp [link, ReaderState.missed, many, ReaderState.dropTag, fetched]
  · next few =>
    refine State.modReader_congr ?_
    rw [ReaderState.missed, if_neg few]

/-- The third tracking miss of a slot that delivers under an empty hold set (R34, R65). -/
theorem State.trackingMiss_third (two : (s.tracking.get h).misses = 2) (free : (s.slots.get h).holds.isEmpty = true)
    (delivers : (s.slotState h).delivers = true) :
    s.trackingMiss h =
      { s with
        slots := s.slots.set h
          { s.slots.get h with state := .paused, holds := { (s.slots.get h).holds with tagLost := true } }
        tracking := s.tracking.set h { s.tracking.get h with misses := 3, restoreWindow := some (s.now + 60000) }
        hoseCtl := s.hoseCtl.set h ((s.hoseCtl.get h).pausing (some (s.now + 300000)))
        pumps := (s.trackingMiss h).pumps
        ports := (s.trackingMiss h).ports } := by
  have kept : (s.slots.get h).holds.tagLost = false := by rw [HoldSet.isEmpty_iff.mp free]; rfl
  let t := s.modTracking h fun k => { k with misses := 3 }
  let v := t.modTracking h fun k => { k with restoreWindow := some (s.now + 60000) }
  have e : s.trackingMiss h = (v.addHold h .tagLost).raise (.hoseState h) := by
    unfold State.trackingMiss State.loseTag
    simp only [two]
    exact if_pos ⟨rfl, kept⟩
  have tracking : v.tracking = s.tracking.set h
      { s.tracking.get h with misses := 3, restoreWindow := some (s.now + 60000) } := by
    simp [v, t]
  rw [e, State.addHold_pauses (s := v) .tagLost delivers free, ← tracking]
  rfl

theorem State.trackingMiss_early (few : (s.tracking.get h).misses < 2) :
    s.trackingMiss h = s.modTracking h fun k => { k with misses := (s.tracking.get h).misses + 1 } := by
  have count : min 3 ((s.tracking.get h).misses + 1) = (s.tracking.get h).misses + 1 := by omega
  unfold State.trackingMiss
  rw [count]
  exact if_neg (by omega)

theorem LinkState.not_polls_of {l : LinkState} (rests : l = .off ∨ l = .qualifying ∨ l = .fault) : l.polls = false := by
  rcases rests with e | e | e <;> rw [e] <;> rfl

/-- Settles O55. -/
theorem tagPolls : Obligations.TagPolls := by
  intro s h b tag normal x taken
  refine ⟨fun accepted operator link => ?_, fun accepted supervisor link => ?_,
    fun accepted link ident free untracked => ⟨fun pages => ?_, fun last => ?_⟩,
    fun accepted link tracked runs other => ?_, fun link fetched untracked => ?_,
    fun tracked rests => ⟨fun few => ?_, fun two empty delivers => ?_⟩⟩
  · have run := exec_panel_page normal link accepted
    have acts : s.acceptPage .pr tag b = (s.modReader .pr fun x => x.accept tag b 0).logOn tag.number := by
      unfold State.acceptPage
      simp only [operator]
    rw [acts] at run
    exact ⟨_, run.trans (State.finish_eq _), rfl⟩
  · have run := exec_panel_page normal link accepted
    intro opened
    have acts : s.acceptPage .pr tag b = opened.serveOverrides := by
      unfold State.acceptPage
      simp only [supervisor]
      rfl
    rw [acts] at run
    refine ⟨fun none => ?_, fun waits alone m machine => ?_⟩
    · rw [State.serveOverrides_rest (s := opened) none] at run
      exact ⟨_, run.trans (State.finish_eq _), rfl⟩
    rw [State.serveOverrides_one (s := opened) alone] at run
    intro given
    refine ⟨fun way hit => ?_, fun miss => ?_⟩
    · rw [State.serveOverride_hit (s := opened) waits machine hit] at run
      exact ⟨_, run.trans (State.finish_eq _), rfl⟩
    · intro way body u
      rw [State.serveOverride_miss (s := opened) waits machine miss] at run
      have entries (w : WayRef) := s.roster.entryAt_pin_fill (provisionalBody s.roster.site m) .provisional w
      refine ⟨(entries way).trans ((if_pos rfl).trans ?_), fun w other => (entries w).trans (if_neg other), _,
        run.trans (State.finish_eq _), rfl⟩
      simp [body, Roster.checkedBody, provisionalBody]
  · have run := exec_base_page (r := .nr h) normal link accepted
    rw [State.pollPresence_untracked _ _ untracked, State.acceptPage,
      State.acceptMachine_fetches ident free pages] at run
    exact ⟨_, run.trans (State.finish_eq _), rfl⟩
  · have run := exec_base_page (r := .nr h) normal link accepted
    rw [State.pollPresence_untracked _ _ untracked, State.acceptPage,
      State.acceptMachine_identifies ident free last] at run
    exact ⟨_, run.trans (State.finish_eq _), rfl⟩
  · have run := exec_base_page (r := .nr h) normal link accepted
    rw [State.acceptPage, State.acceptMachine_mismatch _ accepted tracked runs other] at run
    refine ⟨_, run.trans (State.finish_eq _), rfl, ?_, ?_, rfl⟩
    · simp
    · simp
  · have run : exec (.pollResult (.nr h) .noAnswer) s =
        ((s.pollPresent (.nr h) .noAnswer).pollPresence s (.nr h) .noAnswer).finish := by
      refine congrArg State.finish ((if_pos (by simp [State.isNormal, normal])).trans ?_)
      unfold State.takePoll
      rw [show (s.reader (.nr h)).link = .tagPresent from link]
      rfl
    rw [State.pollPresence_untracked _ _ untracked, State.pollPresent_noAnswer (by exact fetched),
      State.tagMissed_unfetched (by exact fetched) (by exact link)] at run
    exact ⟨_, run.trans (State.finish_eq _), rfl⟩
  · have run : exec (.trackingMissInterval h) s = (s.trackingMiss h).finish :=
      congrArg State.finish (if_pos (by
        simp [State.isNormal, normal, tracked, show (s.nozzleReader.get h).link.polls = false from LinkState.not_polls_of rests]))
    rw [State.trackingMiss_early few] at run
    exact ⟨_, run.trans (State.finish_eq _), rfl⟩
  · have run : exec (.trackingMissInterval h) s = (s.trackingMiss h).finish :=
      congrArg State.finish (if_pos (by
        simp [State.isNormal, normal, tracked, show (s.nozzleReader.get h).link.polls = false from LinkState.not_polls_of rests]))
    rw [State.trackingMiss_third two empty delivers] at run
    refine ⟨_, run.trans (State.finish_eq _), rfl, rfl, ?_, rfl⟩
    simp [HoseControl.pausing]

end Sys2Proof.Machine
end

section
/-! The completion of a transaction (R1, R63, R72, R84, R87, R111 to R113, R159). -/

namespace Sys2Proof.Machine

open Sys2Proof

variable {s t u w : State} {p : Port} {h k : Hose} {c d : Comp} {r : Roster} {x : Completion} {v : WayRef} {m : Nat}

/-! ### The roster's part (R63, R72, R84, R87) -/

/-- The last hours that a completion leaves where `last` stood (R63). -/
def Completion.later (x : Completion) (last : Option Nat) : Option Nat :=
  match x.slot.hours with
  | none => last
  | some v => if x.slot.flags.hoursImplausible = true then last else some (max (last.getD 0) v.hours)

theorem laterHours_eq (last : Option Nat) (n : Nat) : laterHours last n = some (max (last.getD 0) n) := by
  cases last with
  | none => simp [laterHours]
  | some y => rfl

/-- The roster after a completion. -/
def Roster.completed (r : Roster) (w : Option WayRef) (x : Completion) : Roster :=
  match w with
  | none => (r.chargeCompletion x).hoursCompletion none x
  | some v => ((r.chargeCompletion x).hoursCompletion (some v) x).unpin v

/-- A charge writes accounts and usage. -/
theorem Roster.charge_frame (r : Roster) (m : Nat) (i : Fin 32) (day charge net amount : Nat) :
    r.charge m i day charge net amount =
      { r with
        accounts := (r.charge m i day charge net amount).accounts
        usage := (r.charge m i day charge net amount).usage } := by
  unfold Roster.charge
  simp only
  split <;> rfl

theorem Roster.chargeCompletion_frame (r : Roster) (x : Completion) :
    r.chargeCompletion x =
      { r with accounts := (r.chargeCompletion x).accounts, usage := (r.chargeCompletion x).usage } := by
  unfold Roster.chargeCompletion
  split
  · rw [Roster.charge_frame]
  · rfl

/-- Hours write the entry and the usage. -/
theorem Roster.updateHours_frame (r : Roster) (w : Option WayRef) (m n : Nat) :
    r.updateHours w m n =
      { r with cache := (r.updateHours w m n).cache, usage := (r.updateHours w m n).usage } := by
  unfold Roster.updateHours
  cases w with
  | none => rfl
  | some v =>
    simp only
    split <;> rfl

theorem Roster.hoursCompletion_frame (r : Roster) (w : Option WayRef) (x : Completion) :
    r.hoursCompletion w x =
      { r with cache := (r.hoursCompletion w x).cache, usage := (r.hoursCompletion w x).usage } := by
  unfold Roster.hoursCompletion
  split
  · split
    · rfl
    · rw [Roster.updateHours_frame]
  · rfl

theorem Roster.completed_frame (r : Roster) (w : Option WayRef) (x : Completion) :
    r.completed w x =
      { r with
        accounts := (r.chargeCompletion x).accounts, usage := ((r.chargeCompletion x).hoursCompletion w x).usage
        cache := (r.completed w x).cache } := by
  unfold Roster.completed
  cases w with
  | none =>
    simp only
    rw [Roster.hoursCompletion_frame, Roster.chargeCompletion_frame]
  | some v =>
    simp only
    rw [Roster.unpin_frame, Roster.hoursCompletion_frame, Roster.chargeCompletion_frame]

/-- The account after a charge (R87). -/
def Account.charged (a : Account) (sameDay : Prop) [Decidable sameDay] (charge net amount : Nat) : Account :=
  { a with
    dayCharged := if sameDay then a.dayCharged + charge else a.dayCharged
    periodNet := min 99999999999 (a.periodNet + net), periodAmount := min 999999999999 (a.periodAmount + amount)
    periodCount := min 4294967295 (a.periodCount + 1) }

theorem Roster.charge_accounts (r : Roster) (m : Nat) (i j : Fin 32) (day charge net amount : Nat) :
    (r.charge m i day charge net amount).accounts.get j =
      if j = i then (r.accounts.get i).charged (r.stamp = day) charge net amount else r.accounts.get j := by
  unfold Roster.charge
  simp only
  rw [Roster.modAccount_get]
  by_cases sameDay : r.stamp = day
  · rw [if_pos sameDay, Roster.modAccount_get, Roster.modAccount_get, if_pos rfl]
    split
    · unfold Account.charged
      rw [if_pos sameDay]
      rfl
    · rfl
  · rw [if_neg sameDay]
    simp [Account.charged, sameDay]

theorem Roster.charge_usage (r : Roster) (m : Nat) (i : Fin 32) (day charge net amount : Nat) :
    (r.charge m i day charge net amount).usage = r.usage.map fun u =>
      if u.machine = m then
        { u with
          charged := if r.stamp = day then u.charged + charge else u.charged
          transactions := if r.stamp = day then min 255 (u.transactions + 1) else u.transactions }
      else u := by
  unfold Roster.charge
  simp only
  split
  · rfl
  · simp [Roster.modAccount]

theorem Roster.updateHours_usage (r : Roster) (w : Option WayRef) (m n : Nat) :
    (r.updateHours w m n).usage = r.usage.map fun u =>
      if u.machine = m then { u with lastHours := laterHours u.lastHours n } else u := by
  unfold Roster.updateHours
  cases w with
  | none => rfl
  | some v =>
    simp only
    split <;> rfl

theorem Roster.hoursCompletion_usage (machine : x.slot.machine = some m) (w : Option WayRef) :
    (r.hoursCompletion w x).usage = r.usage.map fun u =>
      if u.machine = m then { u with lastHours := x.later u.lastHours } else u := by
  unfold Roster.hoursCompletion Completion.later
  rw [machine]
  cases hours : x.slot.hours with
  | none => simp
  | some n =>
    simp only
    split
    · simp
    · have cached : (r.updateHours w m n.hours).usage = _ := Roster.updateHours_usage r w m n.hours
      simp only [cached, laterHours_eq]

theorem Roster.hoursCompletion_entryAt (machine : x.slot.machine = some m) (v : WayRef) {e : Entry}
    (at_v : r.entryAt v = some e) (y : WayRef) :
    (r.hoursCompletion (some v) x).entryAt y =
      if y = v then some { e with body := { e.body with lastHours := x.later e.body.lastHours } } else r.entryAt y := by
  have rests : r.entryAt y = if y = v then some e else r.entryAt y := by
    split
    · next same => rw [same, at_v]
    · rfl
  unfold Roster.hoursCompletion Completion.later
  rw [machine]
  cases hours : x.slot.hours with
  | none => exact rests
  | some n =>
    simp only
    split
    · exact rests
    · rw [← laterHours_eq]
      unfold Roster.updateHours
      simp only [at_v]
      exact Roster.entryAt_putEntry r v y _

theorem Roster.unpin_entryAt {e : Entry} (at_v : r.entryAt v = some e) (y : WayRef) :
    (r.unpin v).entryAt y =
      if y = v then (if 1 < e.pins then some { e with pins := e.pins - 1 } else r.settled e) else r.entryAt y := by
  unfold Roster.unpin
  rw [at_v]
  simp only
  split
  · next few => rw [Roster.entryAt_putEntry, if_neg (not_lt.mpr few)]
  · next many => rw [Roster.entryAt_putEntry, if_pos (not_le.mp many)]

theorem Roster.chargeCompletion_eq {i : Fin 32} (machine : x.slot.machine = some m) (account : x.slot.account = some i) :
    r.chargeCompletion x = r.charge m i (x.slot.authDay.getD 0) x.charge x.txn.net x.txn.amount := by
  unfold Roster.chargeCompletion
  rw [machine, account]

/-- The account's figures after a completion (R87, R112). -/
theorem Roster.completed_accounts {i : Fin 32} (machine : x.slot.machine = some m) (account : x.slot.account = some i)
    (w : Option WayRef) (j : Fin 32) :
    (r.completed w x).accounts.get j =
      if j = i then (r.accounts.get i).charged (r.stamp = x.slot.authDay.getD 0) x.charge x.txn.net x.txn.amount
      else r.accounts.get j := by
  rw [Roster.completed_frame, Roster.chargeCompletion_eq machine account]
  exact Roster.charge_accounts r m i j _ _ _ _

/-- The Day Usage List after a completion (R63, R87, R112). -/
theorem Roster.completed_usage {i : Fin 32} (machine : x.slot.machine = some m) (account : x.slot.account = some i)
    (w : Option WayRef) :
    (r.completed w x).usage = r.usage.map fun u =>
      if u.machine = m then
        { u with
          charged := if r.stamp = x.slot.authDay.getD 0 then u.charged + x.charge else u.charged
          transactions := if r.stamp = x.slot.authDay.getD 0 then min 255 (u.transactions + 1) else u.transactions
          lastHours := x.later u.lastHours }
      else u := by
  rw [Roster.completed_frame]
  simp only
  rw [Roster.hoursCompletion_usage machine, Roster.chargeCompletion_eq machine account, Roster.charge_usage, List.map_map]
  refine List.map_congr_left fun u _ => ?_
  by_cases same : u.machine = m
  · simp [same]
  · simp [same]

theorem Roster.completed_cache (x : Completion) : (r.completed none x).cache = r.cache := by
  have unreferenced : ((r.chargeCompletion x).hoursCompletion none x).cache = (r.chargeCompletion x).cache := by
    unfold Roster.hoursCompletion
    split
    · split <;> rfl
    · rfl
  unfold Roster.completed
  simp only
  rw [unreferenced, Roster.chargeCompletion_frame]

/-- The entry that a completion leaves (R63, R72, R84). -/
theorem Roster.completed_entryAt {e : Entry} (machine : x.slot.machine = some m) (at_v : r.entryAt v = some e)
    (y : WayRef) :
    (r.completed (some v) x).entryAt y =
      if y = v then
        if 1 < e.pins then
          some { e with body := { e.body with lastHours := x.later e.body.lastHours }, pins := e.pins - 1 }
        else ((r.chargeCompletion x).hoursCompletion (some v) x).settled
          { e with body := { e.body with lastHours := x.later e.body.lastHours } }
      else r.entryAt y := by
  have charged (y : WayRef) : (r.chargeCompletion x).entryAt y = r.entryAt y := by rw [Roster.chargeCompletion_frame]; rfl
  have hours := Roster.hoursCompletion_entryAt (r := r.chargeCompletion x) machine v ((charged v).trans at_v)
  unfold Roster.completed
  simp only
  rw [Roster.unpin_entryAt ((hours v).trans (if_pos rfl)), hours]
  split
  · rfl
  · exact charged y

/-- An entry settles by the usage list alone (R72, R75). -/
theorem Roster.settled_congr {r' : Roster} (usage : r'.usage = r.usage) (e : Entry) : r'.settled e = r.settled e := by
  unfold Roster.settled Roster.checkedBody Roster.chargedToday Roster.usageOf
  rw [usage]

/-! ### Latched flags while the supply is SAVED (R188, R198) -/

/-- A step that leaves the supply, and while it is SAVED every latched flag. -/
def FlagsHeld (s t : State) : Prop :=
  t.supply = s.supply ∧ (s.supply = .saved → ∀ p, (t.ports.get p).latched = (s.ports.get p).latched)

theorem FlagsHeld.of_ports (supply : t.supply = s.supply) (ports : t.ports = s.ports) : FlagsHeld s t :=
  ⟨supply, fun _ _ => by rw [ports]⟩

theorem FlagsHeld.trans (f : FlagsHeld s t) (g : FlagsHeld t u) : FlagsHeld s u :=
  ⟨g.1.trans f.1, fun saved p => (g.2 (f.1.trans saved) p).trans (f.2 saved p)⟩

theorem FlagsHeld.raise (s : State) (e : Event) : FlagsHeld s (s.raise e) := by
  refine ⟨rfl, fun saved p => ?_⟩
  rw [State.raise_port]
  simp [PortState.raise, State.isNormal, saved]

theorem FlagsHeld.setSlotState (s : State) (h : Hose) (st : SlotState) : FlagsHeld s (s.setSlotState h st) := by
  have ports : (s.setSlotState h st).ports = (s.raise (.hoseState h)).ports := by rw [State.setSlotState_eq]
  refine FlagsHeld.trans (FlagsHeld.raise s (.hoseState h)) (FlagsHeld.of_ports ?_ ports)
  rw [State.setSlotState_eq]
  rfl

theorem FlagsHeld.toIdle (s : State) (h : Hose) : FlagsHeld s (s.toIdle h) := by
  unfold State.toIdle
  refine FlagsHeld.trans ?_ (FlagsHeld.setSlotState _ h .idle)
  exact FlagsHeld.of_ports rfl rfl

theorem FlagsHeld.checkVariance (s : State) (c : Comp) : FlagsHeld s (s.checkVariance c) := by
  unfold State.checkVariance
  split
  · simp only
    split
    · exact FlagsHeld.trans (FlagsHeld.of_ports rfl rfl) (FlagsHeld.raise _ .stockVariance)
    · exact FlagsHeld.of_ports rfl rfl
  · exact FlagsHeld.of_ports rfl rfl

/-! ### The completion (R111, R113, R159) -/

/-- The state whose record is written and whose roster is settled, before its slot returns to IDLE. -/
def State.recorded (s : State) (h : Hose) (x : Completion) (mark : Bool) : State :=
  { s with
    journal := { s.journal with
      records := s.journal.records ++
        [⟨s.journal.next, (x.flags s.clock.valid).clockInvalid || !s.clock.valid || mark,
          .dispense (s.composeDispense h x)⟩]
      next := s.journal.next + 1
      register := s.journal.register.put (.hose h) none }
    roster := s.roster.completed (s.slots.get h).entry x
    ports := (s.raise .journalNew).ports }

theorem State.complete_eq {mark : Bool} (x : Completion) (holds : s.journal.register.hoses.get h = some mark) :
    s.complete h x = (s.recorded h x mark).toIdle h := by
  unfold State.complete
  rw [State.convertSlot_eq (k := .hose h) _ holds]
  unfold State.recorded Roster.completed State.releaseEntry
  cases (s.slots.get h).entry with
  | none => rfl
  | some v => rfl

/-- Settles O53: the record and the roster's part, the return to IDLE, the variance check. -/
theorem completionWritesRecord : Obligations.CompletionWritesRecord := by
  intro s h mark settles closing holds bound x c flags r charge sameDay later
  let z := s.modHoseCtl h fun k => { k with settle := none }
  let y := s.liveCompletion h
  have run : exec (.settleTimerExpiry h) s = (((z.recorded h y mark).toIdle h).checkVariance (hoseComp h)).finish := by
    rw [← State.complete_eq (s := z) y holds]
    exact congrArg State.finish ((if_pos settles).trans (if_pos closing))
  have stood : FlagsStand (s.raise .journalNew) (((z.recorded h y mark).toIdle h).checkVariance (hoseComp h)) :=
    ((FlagsStand.of_ports rfl).trans (FlagsStand.toIdle (z.recorded h y mark) h)).trans
      (FlagsStand.checkVariance _ (hoseComp h))
  have held : FlagsHeld (s.raise .journalNew) (((z.recorded h y mark).toIdle h).checkVariance (hoseComp h)) :=
    ((FlagsHeld.of_ports rfl rfl).trans (FlagsHeld.toIdle (z.recorded h y mark) h)).trans
      (FlagsHeld.checkVariance _ (hoseComp h))
  have flag : ((((z.recorded h y mark).toIdle h).checkVariance (hoseComp h)).ports.get .office).hasFlag .office .journalNew
      = (s.supply == .normal || (s.ports.get .office).hasFlag .office .journalNew) := by
    cases supply : s.supply with
    | normal => exact stood.hasFlag (State.raise_hasFlag supply (by decide))
    | saved =>
      have latched := (held.2 supply .office).trans ((FlagsHeld.raise s .journalNew).2 supply .office)
      unfold PortState.hasFlag
      rw [latched]
      rfl
  have flat : ((z.recorded h y mark).toIdle h).checkVariance (hoseComp h) =
      { s with
        slots := s.slots.set h Slot.fresh, hoseCtl := s.hoseCtl.set h { s.hoseCtl.get h with settle := none }
        chan := s.chan.set h c.unbind, journal := (z.recorded h y mark).journal
        nozzleReader := s.nozzleReader.set h (s.nozzleReader.get h).powerOff, pendingTag := s.pendingTag.set h false
        tracking := s.tracking.set h Tracking.off, roster := s.roster.completed x.entry y
        logoffTimer := (((z.recorded h y mark).toIdle h).checkVariance (hoseComp h)).logoffTimer
        pumps := (((z.recorded h y mark).toIdle h).checkVariance (hoseComp h)).pumps
        gauge := (((z.recorded h y mark).toIdle h).checkVariance (hoseComp h)).gauge
        ports := (((z.recorded h y mark).toIdle h).checkVariance (hoseComp h)).ports } := by
    have released : ((z.recorded h y mark).chan.get h).released = c.unbind := if_pos bound
    rw [State.checkVariance_frame, State.toIdle_eq, released]
    rfl
  generalize ((z.recorded h y mark).toIdle h).checkVariance (hoseComp h) = w at *
  rw [flat] at run
  refine ⟨_, run.trans (State.finish_eq _), rfl, rfl, rfl, rfl, fun m machine i account => ⟨?_, fun j other => ?_, ?_⟩,
    fun none => ?_, fun m machine v entry e at_v => ?_, ?_, ?_, ?_, rfl, flag, rfl⟩
  · exact (Roster.completed_accounts (x := y) machine account _ i).trans (if_pos rfl)
  · exact (Roster.completed_accounts (x := y) machine account _ j).trans (if_neg other)
  · exact Roster.completed_usage (x := y) machine account _
  · refine Eq.trans ?_ (Roster.completed_cache (r := s.roster) y)
    rw [← none]
  · have after := Roster.completed_entryAt (x := y) machine at_v
    have settled := Roster.settled_congr (r := (s.roster.chargeCompletion y).hoursCompletion (some v) y)
      (r' := s.roster.completed (some v) y) (by rw [Roster.completed_frame])
    rw [entry]
    refine ⟨?_, fun other differs => (after other).trans (if_neg differs)⟩
    intro kept
    refine (after v).trans ((if_pos rfl).trans ?_)
    rw [← settled]
    split
    · rfl
    · unfold Roster.settled
      cases e.pendingUpdate with
      | none => cases e.origin <;> rfl
      | some update => cases update <;> rfl
  · rw [Roster.completed_frame]
  · simp [ReaderState.powerOff, ReaderState.off]
  · simp

end Sys2Proof.Machine
end

section
/-! A counted pulse on the transaction route (R3, R7, R14 to R18, R33, R128, R141). -/

namespace Sys2Proof.Machine

open Sys2Proof

variable {s t u w : State} {p : Port} {h k : Hose} {c d : Comp}

/-! ### What a pulse keeps of a hose -/

/-- The flags and the volume of a hose's slot, its exceptions, its accumulator and its leak detection stand. -/
structure HoseKeeps (k : Hose) (s t : State) : Prop where
  flags : (t.slots.get k).flags = (s.slots.get k).flags
  volume : (t.slots.get k).authorised = (s.slots.get k).authorised
  pending : (t.hoseCtl.get k).pendingException = (s.hoseCtl.get k).pendingException
  transaction : (t.hoseCtl.get k).transactionException = (s.hoseCtl.get k).transactionException
  overrun : (t.hoseCtl.get k).overrunReported = (s.hoseCtl.get k).overrunReported
  accumulator : (t.hoseCtl.get k).accumulator = (s.hoseCtl.get k).accumulator
  armed : (t.hoseCtl.get k).leakArmed = (s.hoseCtl.get k).leakArmed

theorem HoseKeeps.of_same (slot : t.slots.get k = s.slots.get k) (ctl : t.hoseCtl.get k = s.hoseCtl.get k) :
    HoseKeeps k s t :=
  ⟨by rw [slot], by rw [slot], by rw [ctl], by rw [ctl], by rw [ctl], by rw [ctl], by rw [ctl]⟩

theorem HoseKeeps.refl (k : Hose) (s : State) : HoseKeeps k s s := HoseKeeps.of_same rfl rfl

theorem HoseKeeps.trans (f : HoseKeeps k s t) (g : HoseKeeps k t u) : HoseKeeps k s u :=
  ⟨g.flags.trans f.flags, g.volume.trans f.volume, g.pending.trans f.pending, g.transaction.trans f.transaction,
    g.overrun.trans f.overrun, g.accumulator.trans f.accumulator, g.armed.trans f.armed⟩

theorem HoseKeeps.of_other (f : sameOtherHoses h s t) (other : k ≠ h) : HoseKeeps k s t :=
  HoseKeeps.of_same (f k other).1 (f k other).2.2.1

theorem HoseKeeps.setSlotState (k : Hose) (s : State) (h : Hose) (st : SlotState) :
    HoseKeeps k s (s.setSlotState h st) := by
  by_cases same : k = h
  · subst same
    rw [State.setSlotState_eq]
    exact ⟨by simp, by simp, rfl, rfl, rfl, rfl, rfl⟩
  · exact HoseKeeps.of_other (sameOtherHoses.setSlotState s h st) same

theorem HoseKeeps.enterClosing (k : Hose) (s : State) (h : Hose) (cause : EndCause) :
    HoseKeeps k s (s.enterClosing h cause) := by
  by_cases same : k = h
  · subst same
    cases runs : (s.slotState k).running with
    | false => exact HoseKeeps.of_same (by rw [State.enterClosing_idle s _ runs]) (by rw [State.enterClosing_idle s _ runs])
    | true =>
      rw [State.enterClosing_eq _ runs]
      constructor <;> simp [HoseControl.settling]
  · exact HoseKeeps.of_other (sameOtherHoses.enterClosing s h cause) same

theorem HoseKeeps.enterSlowing (k : Hose) (s : State) (h : Hose) : HoseKeeps k s (s.enterSlowing h) := by
  refine HoseKeeps.trans ?_ (HoseKeeps.setSlotState k _ h .slowing)
  by_cases same : k = h
  · subst same
    constructor <;> simp
  · exact HoseKeeps.of_same rfl (PerHose.get_set_ne _ _ same)

theorem HoseKeeps.compareVolume (k : Hose) (s : State) (h : Hose) : HoseKeeps k s (s.compareVolume h) := by
  rcases s.compareVolume_cases h with e | e | e <;> rw [e]
  · exact HoseKeeps.enterClosing k s h _
  · exact HoseKeeps.enterSlowing k s h
  · exact HoseKeeps.refl k s

theorem HoseKeeps.closeForCut (k : Hose) (s : State) (c : Comp) : HoseKeeps k s (s.closeForCut c) := by
  cases c with
  | a => exact (HoseKeeps.enterClosing k s .h1 _).trans (HoseKeeps.enterClosing k _ .h2 _)
  | b => exact HoseKeeps.enterClosing k s .h3 _

theorem HoseKeeps.raise (f : HoseKeeps k s t) (e : Event) : HoseKeeps k s (t.raise e) :=
  f.trans (HoseKeeps.of_same rfl rfl)

theorem HoseKeeps.of_fields (f : HoseKeeps k s t) (slots : u.slots = t.slots) (ctl : u.hoseCtl = t.hoseCtl) :
    HoseKeeps k s u := f.trans (HoseKeeps.of_same (by rw [slots]) (by rw [ctl]))

theorem HoseKeeps.evaluateCut (k : Hose) (s : State) (c : Comp) : HoseKeeps k s (s.evaluateCut c) := by
  rcases State.evaluateCut_cases (s := s) c with e | e | ⟨-, -, e⟩ <;> rw [e]
  · exact HoseKeeps.refl k s
  · exact HoseKeeps.of_same rfl rfl
  · refine HoseKeeps.raise (HoseKeeps.trans ?_ (HoseKeeps.closeForCut k _ c)) .stockCut
    exact HoseKeeps.of_same rfl rfl

/-! ### A net increment handed on (R15, R118, R141) -/

/-- The stock record after a debit, before its cut flag. -/
def Stock.debit (x : Stock) (n : Nat) : Stock :=
  { x with book := max (-bookLimit) (x.book - n), dispensed := (x.dispensed + n) % counterModulus }

/-- A debit with its cut, before the restock test. -/
def State.debited (s : State) (c : Comp) (n : Nat) : State := (s.modStock c fun x => x.debit n).evaluateCut c

theorem State.debitStock_none (c : Comp) (before : Nat) : s.debitStock c 0 before = s := if_pos rfl

theorem State.debitStock_some {n : Nat} (c : Comp) (before : Nat) (some : 0 < n) :
    s.debitStock c n before = (s.debited c n).restockIfFell c before := if_neg some.ne'

theorem State.debited_frame (s : State) (c : Comp) (n : Nat) :
    s.debited c n =
      { s with
        stock := s.stock.set c
          { (s.stock.get c).debit n with cut := decide (((s.stock.get c).debit n).book ≤ s.cal.dead.get c) }
        slots := (s.debited c n).slots, hoseCtl := (s.debited c n).hoseCtl, tracking := (s.debited c n).tracking
        pumps := (s.debited c n).pumps, ports := (s.debited c n).ports } := by
  unfold State.debited
  rw [State.evaluateCut_frame, State.evaluateCut_stock]
  simp

theorem State.debitStock_frame (s : State) (c : Comp) (n before : Nat) :
    s.debitStock c n before =
      { s with
        stock := (s.debitStock c n before).stock, slots := (s.debitStock c n before).slots
        hoseCtl := (s.debitStock c n before).hoseCtl, tracking := (s.debitStock c n before).tracking
        pumps := (s.debitStock c n before).pumps, ports := (s.debitStock c n before).ports } := by
  rcases Nat.eq_zero_or_pos n with rfl | some
  · rw [State.debitStock_none]
  · rw [State.debitStock_some c before some, State.restockIfFell_frame, State.debited_frame]

theorem State.countDispensed_frame (s : State) (c : Comp) (n : Nat) :
    s.countDispensed c n = { s with receipts := s.receipts.set c ((s.receipts.get c).counting n) } := by
  rw [← State.countDispensed_receipts]
  unfold State.countDispensed
  split <;> rfl

/-- What a handed increment writes (R15). -/
theorem State.handNet_frame (s : State) (c : Comp) (n before : Nat) :
    s.handNet c n before =
      { s with
        stock := (s.debitStock c n before).stock, slots := (s.debitStock c n before).slots
        hoseCtl := (s.debitStock c n before).hoseCtl, tracking := (s.debitStock c n before).tracking
        pumps := (s.debitStock c n before).pumps, ports := (s.debitStock c n before).ports
        receipts := s.receipts.set c ((s.receipts.get c).counting n) } := by
  unfold State.handNet
  rw [State.countDispensed_frame, State.debitStock_frame]

/-- The figures of a debit (R118). -/
theorem State.debitStock_figures {n before : Nat} (some : 0 < n) :
    ((s.debitStock c n before).stock.get c).book = max (-549755813888) ((s.stock.get c).book - n)
      ∧ ((s.debitStock c n before).stock.get c).dispensed = ((s.stock.get c).dispensed + n) % 1099511627776
      ∧ ∀ d, d ≠ c → (s.debitStock c n before).stock.get d = s.stock.get d := by
  obtain ⟨book, -, -, dispensed, -⟩ := (s.debited c n).restockIfFell_figures c before
  have stock : (s.debited c n).stock = _ := congrArg State.stock (s.debited_frame c n)
  rw [State.debitStock_some c before some]
  refine ⟨book.trans ?_, dispensed.trans ?_, fun d other => ?_⟩
  · rw [stock]
    simp [Stock.debit, bookLimit]
  · rw [stock]
    simp [Stock.debit, counterModulus]
  · exact (State.restockIfFell_stock_ne other).trans (by rw [stock]; simp [other])

theorem HoseKeeps.debitStock (k : Hose) (s : State) (c : Comp) (n before : Nat) :
    HoseKeeps k s (s.debitStock c n before) := by
  rcases Nat.eq_zero_or_pos n with rfl | some
  · rw [State.debitStock_none]
    exact HoseKeeps.refl k s
  · have debited : HoseKeeps k s (s.debited c n) := by
      unfold State.debited
      refine HoseKeeps.trans ?_ (HoseKeeps.evaluateCut k (s.modStock c fun x => x.debit n) c)
      exact HoseKeeps.of_same rfl rfl
    rw [State.debitStock_some c before some, State.restockIfFell_frame]
    exact debited.of_fields rfl rfl

theorem HoseKeeps.handNet (k : Hose) (s : State) (c : Comp) (n before : Nat) : HoseKeeps k s (s.handNet c n before) := by
  have debit := HoseKeeps.debitStock k s c n before
  rw [State.handNet_frame]
  exact debit.of_fields rfl rfl

/-- The restock test of a handed increment (R128): `t` is any later state that leaves stock and availability. -/
theorem restockFollows_of_handNet {n : Nat} (some : 0 < n) (stock : u.stock = s.stock) (depot : u.depot = s.depot)
    (clock : u.clock = s.clock) (supply : u.supply = s.supply)
    (after : RestockStays c (u.handNet c n (s.availableStock c)) t) : restockFollows c s t := by
  have counted : RestockStays c (u.debitStock c n (s.availableStock c)) (u.handNet c n (s.availableStock c)) := by
    unfold State.handNet
    rw [State.countDispensed_frame]
    exact ⟨rfl, rfl, fun _ => rfl, FlagsStand.of_ports rfl⟩
  have stays := counted.trans after
  rw [State.debitStock_some c _ some] at stays
  refine restockFollows_of (w := u.debited c n) ?_ stays
  rw [State.debited_frame]
  exact ⟨by simp [Stock.debit, stock], by simp [Stock.debit, stock], depot, clock, supply⟩

/-! ### Flow sense, OVERRUN (R29, R30, R33) -/

theorem HoseKeeps.modHoseCtl (k : Hose) (s : State) (h : Hose) (f : HoseControl → HoseControl)
    (keeps : ∀ x, (f x).pendingException = x.pendingException ∧ (f x).transactionException = x.transactionException
      ∧ (f x).overrunReported = x.overrunReported ∧ (f x).accumulator = x.accumulator ∧ (f x).leakArmed = x.leakArmed) :
    HoseKeeps k s (s.modHoseCtl h f) := by
  by_cases same : k = h
  · subst same
    obtain ⟨pending, transaction, overrun, accumulator, armed⟩ := keeps (s.hoseCtl.get k)
    exact ⟨rfl, rfl, by simpa using pending, by simpa using transaction, by simpa using overrun,
      by simpa using accumulator, by simpa using armed⟩
  · exact HoseKeeps.of_same rfl (PerHose.get_set_ne _ _ same)

/-- A step of the hose's slot and control that keeps what a pulse has metered: frame, hoses, availability, flags. -/
structure SlotStep (s t : State) : Prop where
  frame : t = { s with
    slots := t.slots, hoseCtl := t.hoseCtl, tracking := t.tracking, pumps := t.pumps, ports := t.ports }
  keeps : ∀ k, HoseKeeps k s t
  reserved : ∀ k, t.reservedRemainder k = s.reservedRemainder k
  flags : FlagsStand s t

theorem SlotStep.refl (s : State) : SlotStep s s := ⟨rfl, fun k => HoseKeeps.refl k s, fun _ => rfl, FlagsStand.refl s⟩

theorem SlotStep.trans (f : SlotStep s t) (g : SlotStep t u) : SlotStep s u := by
  refine ⟨?_, fun k => (f.keeps k).trans (g.keeps k), fun k => (g.reserved k).trans (f.reserved k), f.flags.trans g.flags⟩
  refine g.frame.trans ?_
  rw [f.frame]

theorem SlotStep.restock (f : SlotStep s t) (c : Comp) : RestockStays c s t :=
  ⟨by rw [f.frame], by rw [f.frame], f.reserved, f.flags⟩

theorem SlotStep.enterClosing (s : State) (h : Hose) (cause : EndCause) : SlotStep s (s.enterClosing h cause) :=
  ⟨State.enterClosing_frame_eq h cause, fun k => HoseKeeps.enterClosing k s h cause,
    State.enterClosing_reserved h cause, FlagsStand.enterClosing s h cause⟩

theorem SlotStep.compareVolume (s : State) (h : Hose) : SlotStep s (s.compareVolume h) :=
  ⟨State.compareVolume_frame h, fun k => HoseKeeps.compareVolume k s h, State.compareVolume_reserved h,
    FlagsStand.compareVolume s h⟩

theorem SlotStep.modHoseCtl (s : State) (h : Hose) (f : HoseControl → HoseControl)
    (keeps : ∀ x, (f x).pendingException = x.pendingException ∧ (f x).transactionException = x.transactionException
      ∧ (f x).overrunReported = x.overrunReported ∧ (f x).accumulator = x.accumulator ∧ (f x).leakArmed = x.leakArmed) :
    SlotStep s (s.modHoseCtl h f) :=
  ⟨rfl, fun k => HoseKeeps.modHoseCtl k s h f keeps, fun _ => rfl, FlagsStand.of_ports rfl⟩

theorem SlotStep.flowing (ready : s.slotState h = .ready) : SlotStep s (s.setSlotState h .flowing) := by
  refine ⟨?_, fun k => HoseKeeps.setSlotState k s h .flowing, State.setSlotState_reserved (by rw [ready]; rfl),
    FlagsStand.setSlotState s h .flowing⟩
  rw [State.setSlotState_active (by rw [ready]; decide) (by decide)]

theorem SlotStep.senseFlow (s : State) (h : Hose) : SlotStep s (s.senseFlow h) := by
  have noted : SlotStep s (if (s.slotState h).delivers then
      s.modHoseCtl h fun c => { c with noFlow := s.timer 60000 } else s) := by
    split
    · exact SlotStep.modHoseCtl s h _ fun _ => ⟨rfl, rfl, rfl, rfl, rfl⟩
    · exact SlotStep.refl s
  have slots : (if (s.slotState h).delivers then
      s.modHoseCtl h fun c => { c with noFlow := s.timer 60000 } else s).slotState h = s.slotState h := by
    split <;> rfl
  unfold State.senseFlow
  generalize (if (s.slotState h).delivers then
      s.modHoseCtl h fun c => { c with noFlow := s.timer 60000 } else s) = t at *
  simp only
  split
  · next ready =>
    split
    · refine noted.trans (SlotStep.trans ?_ (SlotStep.flowing ?_))
      · exact SlotStep.modHoseCtl t h _ fun _ => ⟨rfl, rfl, rfl, rfl, rfl⟩
      · exact slots.trans ready
    · exact noted.trans (SlotStep.modHoseCtl t h _ fun _ => ⟨rfl, rfl, rfl, rfl, rfl⟩)
  · exact noted.trans (SlotStep.modHoseCtl t h _ fun _ => ⟨rfl, rfl, rfl, rfl, rfl⟩)
  · exact noted

/-! ### Metering exceptions (R33, R44) -/

theorem State.meterException_frame (s : State) (h : Hose) (code : MeterException) :
    s.meterException h code =
      { s with hoseCtl := (s.meterException h code).hoseCtl, ports := (s.raise (.exception h)).ports } := rfl

theorem State.meterException_hoseCtl (s : State) (h : Hose) (code : MeterException) :
    (s.meterException h code).hoseCtl = s.hoseCtl.set h
      { s.hoseCtl.get h with
        pendingException := bumpException code (s.hoseCtl.get h).pendingException
        transactionException :=
          if (s.chan.get h).bound then bumpException code (s.hoseCtl.get h).transactionException
          else (s.hoseCtl.get h).transactionException } := rfl

/-- An exception that later steps keep (R44). -/
theorem exceptionFollows_of {code : MeterException}
    (pending : (u.hoseCtl.get h).pendingException = (s.hoseCtl.get h).pendingException)
    (transaction : (u.hoseCtl.get h).transactionException = (s.hoseCtl.get h).transactionException)
    (bound : (u.chan.get h).bound = (s.chan.get h).bound) (supply : u.supply = s.supply)
    (after : HoseKeeps h (u.meterException h code) t) (flags : FlagsStand (u.meterException h code) t) :
    exceptionFollows h code s t := by
  refine ⟨after.pending.trans ?_, after.transaction.trans ?_, fun normal => flags.hasFlag ?_⟩
  · rw [State.meterException_hoseCtl, PerHose.get_set_same, pending]
  · rw [State.meterException_hoseCtl, PerHose.get_set_same, transaction, bound]
  · exact State.raise_hasFlag (supply.trans normal) (by cases h <;> decide)

/-! ### OVERRUN (R33) -/

/-- Net past the authorised volume by more than 200 cL, not reported yet (R33). -/
def State.overruns (s : State) (h : Hose) : Prop :=
  (s.hoseCtl.get h).overrunReported = false ∧ (s.slots.get h).authorisedVolume + 200 < (s.chan.get h).txn.net

/-- The mark of a reported OVERRUN. -/
def State.overrunMarked (s : State) (h : Hose) : State := s.modHoseCtl h fun x => { x with overrunReported := true }

theorem State.checkOverrun_reports (past : s.overruns h) :
    s.checkOverrun h = (s.overrunMarked h).meterException h .overrun := if_pos past

theorem State.checkOverrun_rests (within : ¬ s.overruns h) : s.checkOverrun h = s := if_neg within

theorem State.checkOverrun_frame (s : State) (h : Hose) :
    s.checkOverrun h = { s with hoseCtl := (s.checkOverrun h).hoseCtl, ports := (s.checkOverrun h).ports } := by
  unfold State.checkOverrun
  split <;> rfl

theorem State.checkOverrun_marks (past : s.overruns h) : ((s.checkOverrun h).hoseCtl.get h).overrunReported = true := by
  rw [State.checkOverrun_reports past, State.meterException_hoseCtl]
  simp [State.overrunMarked]

theorem FlagsStand.checkOverrun (s : State) (h : Hose) : FlagsStand s (s.checkOverrun h) := by
  unfold State.checkOverrun
  exact FlagsStand.ite (fun _ => FlagsStand.trans (FlagsStand.of_ports rfl) (FlagsStand.raise _ (.exception h)))
    fun _ => FlagsStand.refl s

theorem RestockStays.checkOverrun (c : Comp) (s : State) (h : Hose) : RestockStays c s (s.checkOverrun h) := by
  refine ⟨?_, ?_, fun k => ?_, FlagsStand.checkOverrun s h⟩ <;> rw [State.checkOverrun_frame]
  rfl

/-! ### The transaction pulse (R7, R14 to R18) -/

/-- The context a pulse leaves. -/
def State.pulsedTxn (s : State) (h : Hose) : TxnContext :=
  (s.chan.get h).txn.pulse ((s.slots.get h).alpha.getD 0) ((s.slots.get h).price.getD 0) (s.chan.get h).deviation

/-- The whole centilitres of a pulse, gross and net. -/
def State.grossGain (s : State) (h : Hose) : Nat := (s.pulsedTxn h).gross - (s.chan.get h).txn.gross

def State.netGain (s : State) (h : Hose) : Nat := (s.pulsedTxn h).net - (s.chan.get h).txn.net

/-- The channel and the slot's flags after a pulse. -/
def State.metered (s : State) (h : Hose) : State :=
  { s with
    chan := s.chan.set h
      (({ s.chan.get h with txn := s.pulsedTxn h } : Channel).totalize (s.grossGain h) (s.netGain h))
    slots := if s.grossGain h = 0 then s.slots
      else s.slots.set h { s.slots.get h with flags := (s.slots.get h).flags.weigh (s.chan.get h) } }

/-- The net increment handed on. -/
def State.handed (s : State) (h : Hose) : State :=
  (s.metered h).handNet (hoseComp h) (s.netGain h) (s.availableStock (hoseComp h))

/-- A pulse ends in flow sense alone, where its net did not move, or in the comparison and OVERRUN. -/
theorem State.transactionPulse_cases (s : State) (h : Hose) :
    ∃ v, SlotStep (s.handed h) v
      ∧ (s.netGain h = 0 ∧ s.transactionPulse h = v ∨ s.transactionPulse h = v.checkOverrun h) := by
  have e : s.transactionPulse h =
      if s.netGain h = 0 ∧ ((s.handed h).senseFlow h).slotState h = s.slotState h then (s.handed h).senseFlow h
      else (((s.handed h).senseFlow h).compareVolume h).checkOverrun h := by
    have metered : s.metered h =
        (if s.grossGain h = 0 then s.modChan h fun c =>
            ({ c with txn := s.pulsedTxn h } : Channel).totalize (s.grossGain h) (s.netGain h)
          else (s.modChan h fun c =>
            ({ c with txn := s.pulsedTxn h } : Channel).totalize (s.grossGain h) (s.netGain h)).modSlot h fun x =>
              { x with flags := x.flags.weigh (s.chan.get h) }) := by
      unfold State.metered
      split <;> rfl
    unfold State.handed
    rw [metered]
    rfl
  rw [e]
  split
  · next still => exact ⟨_, SlotStep.senseFlow _ h, .inl ⟨still.1, rfl⟩⟩
  · exact ⟨_, (SlotStep.senseFlow _ h).trans (SlotStep.compareVolume _ h), .inr rfl⟩

theorem State.handed_frame (s : State) (h : Hose) :
    s.handed h =
      { s with
        chan := (s.metered h).chan, stock := (s.handed h).stock, slots := (s.handed h).slots
        hoseCtl := (s.handed h).hoseCtl, tracking := (s.handed h).tracking, pumps := (s.handed h).pumps
        ports := (s.handed h).ports
        receipts := s.receipts.set (hoseComp h) ((s.receipts.get (hoseComp h)).counting (s.netGain h)) } := by
  unfold State.handed
  rw [State.handNet_frame]
  rfl

/-- What the pulse leaves beside OVERRUN. -/
theorem State.transactionPulse_frame (s : State) (h : Hose) :
    let t := s.transactionPulse h
    t = { s with
      chan := (s.metered h).chan, slots := t.slots, hoseCtl := t.hoseCtl, tracking := t.tracking, pumps := t.pumps
      stock := (s.handed h).stock, ports := t.ports
      receipts := s.receipts.set (hoseComp h) ((s.receipts.get (hoseComp h)).counting (s.netGain h)) }
    ∧ RestockStays (hoseComp h) (s.handed h) t ∧ (t.slots.get h).flags = ((s.metered h).slots.get h).flags := by
  intro t
  obtain ⟨v, step, ends⟩ := s.transactionPulse_cases h
  have flags : (v.slots.get h).flags = ((s.metered h).slots.get h).flags :=
    (step.keeps h).flags.trans (HoseKeeps.handNet h (s.metered h) _ _ _).flags
  rcases ends with ⟨-, e⟩ | e <;> unfold t <;> rw [e]
  · refine ⟨?_, step.restock _, flags⟩
    rw [step.frame, State.handed_frame]
  · refine ⟨?_, (step.restock _).trans (RestockStays.checkOverrun _ v h), ?_⟩
    · rw [State.checkOverrun_frame, step.frame, State.handed_frame]
    · rw [State.checkOverrun_frame]
      exact flags

/-- The OVERRUN of a pulse (R33). -/
theorem State.transactionPulse_overrun (s : State) (h : Hose) :
    let t := s.transactionPulse h
    if 0 < s.netGain h ∧ (s.hoseCtl.get h).overrunReported = false
        ∧ (s.slots.get h).authorisedVolume + 200 < (s.pulsedTxn h).net then
      exceptionFollows h .overrun s t ∧ (t.hoseCtl.get h).overrunReported = true
    else 0 < s.netGain h → exceptionStands h s t
      ∧ (t.hoseCtl.get h).overrunReported = (s.hoseCtl.get h).overrunReported := by
  intro t
  obtain ⟨v, step, ends⟩ := s.transactionPulse_cases h
  have metered : HoseKeeps h (s.metered h) v :=
    (HoseKeeps.handNet h (s.metered h) _ _ _).trans (step.keeps h)
  have chan : v.chan = (s.metered h).chan := by rw [step.frame, State.handed_frame]
  have supply : v.supply = s.supply := by rw [step.frame, State.handed_frame]
  have net : (v.chan.get h).txn.net = (s.pulsedTxn h).net := by
    rw [chan, State.metered, PerHose.get_set_same]
    rfl
  have bound : (v.chan.get h).bound = (s.chan.get h).bound := by
    rw [chan, State.metered, PerHose.get_set_same]
    rfl
  have volume : (v.slots.get h).authorisedVolume = (s.slots.get h).authorisedVolume := by
    unfold Slot.authorisedVolume
    rw [metered.volume, State.metered]
    simp only
    split <;> simp
  have iff : v.overruns h ↔ (s.hoseCtl.get h).overrunReported = false
      ∧ (s.slots.get h).authorisedVolume + 200 < (s.pulsedTxn h).net := by
    unfold State.overruns
    rw [metered.overrun, volume, net]
    rfl
  split
  · next past =>
    have e : t = v.checkOverrun h := ends.resolve_left fun still => past.1.ne' still.1
    have exceeds := iff.mpr past.2
    rw [e]
    refine ⟨?_, State.checkOverrun_marks exceeds⟩
    rw [State.checkOverrun_reports exceeds]
    have marked : HoseControl.pendingException ((v.overrunMarked h).hoseCtl.get h) = (v.hoseCtl.get h).pendingException
        ∧ HoseControl.transactionException ((v.overrunMarked h).hoseCtl.get h)
          = (v.hoseCtl.get h).transactionException := by simp [State.overrunMarked]
    exact exceptionFollows_of (u := v.overrunMarked h) (marked.1.trans metered.pending)
      (marked.2.trans metered.transaction) bound supply (HoseKeeps.refl h _) (FlagsStand.refl _)
  · next within =>
    intro some
    have e : t = v.checkOverrun h := ends.resolve_left fun still => some.ne' still.1
    have rests : t = v := e.trans (State.checkOverrun_rests fun exceeds => within ⟨some, iff.mp exceeds⟩)
    rw [rests]
    exact ⟨⟨metered.pending, metered.transaction⟩, metered.overrun⟩

/-! ### The edge that the pulse is (R3) -/

/-- A line's edge writes the lines and the last-changed mark (R3). -/
theorem Channel.lineTakes_eq (x : Channel) (line : MeterLine) (high : Bool) :
    x.lineTakes line high =
      { x with
        p1 := (x.lineTakes line high).p1, p2 := (x.lineTakes line high).p2, lastChanged := some line } := by
  cases line <;> rfl

/-- The state in which a pulse is taken: the time has moved on and the line has its level. -/
def State.edged (s : State) (h : Hose) (line : MeterLine) (time : Nat) : State :=
  { s with now := max s.now time, chan := s.chan.set h ((s.chan.get h).lineTakes line true) }

theorem State.edged_chan (s : State) (h : Hose) (line : MeterLine) (time : Nat) :
    (s.edged h line time).chan.get h = (s.chan.get h).lineTakes line true := PerHose.get_set_same _ _ _

/-- A rising edge in NORMAL is a phase error, a forward or a reverse pulse (R3, R4). -/
theorem exec_rising {line : MeterLine} (time : Nat) (normal : s.supply = .normal) (low : (s.chan.get h).level line = false) :
    exec (.pulseEdge h line true time) s =
      (if (s.chan.get h).lastChanged = some line then (s.edged h line time).phaseError h
      else if (s.chan.get h).forward line then (s.edged h line time).forwardPulse h
      else (s.edged h line time).reversePulse h).finish := by
  refine congrArg State.finish ((if_neg ?_).trans ((if_pos rfl).trans (if_pos ?_)))
  · rw [show (({ s with now := max s.now time } : State).chan.get h).level line = false from low]
    decide
  · simpa [State.isNormal] using normal

theorem State.edged_available (s : State) (h : Hose) (line : MeterLine) (time : Nat) (c : Comp) :
    (s.edged h line time).availableStock c = s.availableStock c := by
  refine State.availableStock_congr rfl rfl fun k => ?_
  have net : ((s.edged h line time).chan.get k).txn = (s.chan.get k).txn := by
    by_cases same : k = h
    · subst same
      rw [State.edged_chan, Channel.lineTakes_eq]
    · simp [State.edged, same]
  unfold State.reservedRemainder
  rw [net]
  rfl

theorem restockFollows_congr (available : u.availableStock c = s.availableStock c) (stock : u.stock = s.stock)
    (depot : u.depot = s.depot) (clock : u.clock = s.clock) (supply : u.supply = s.supply)
    (follows : restockFollows c u t) : restockFollows c s t := by
  unfold restockFollows restockTested restockStands at *
  rwa [available, stock, depot, clock, supply] at follows

theorem exceptionFollows_congr {code : MeterException} (bound : (u.chan.get h).bound = (s.chan.get h).bound)
    (ctl : u.hoseCtl = s.hoseCtl) (supply : u.supply = s.supply) (follows : exceptionFollows h code u t) :
    exceptionFollows h code s t := by
  unfold exceptionFollows at *
  rwa [bound, ctl, supply] at follows

/-- The edge leaves the context, the deviation and the route of the channel. -/
theorem Channel.lineTakes_reads (x : Channel) (line : MeterLine) (high : Bool) :
    (x.lineTakes line high).txn = x.txn ∧ (x.lineTakes line high).deviation = x.deviation
      ∧ (x.lineTakes line high).weightsClamped = x.weightsClamped
      ∧ (x.lineTakes line high).tempState = x.tempState ∧ (x.lineTakes line high).bound = x.bound
      ∧ (x.lineTakes line high).debt = x.debt := by
  cases line <;> exact ⟨rfl, rfl, rfl, rfl, rfl, rfl⟩

/-- The pulse's context in the figures of the channel before the edge (R7, R14, R16). -/
theorem State.edged_pulsedTxn (s : State) (h : Hose) (line : MeterLine) (time : Nat) :
    (s.edged h line time).pulsedTxn h = s.pulsedTxn h := by
  obtain ⟨txn, deviation, -⟩ := (s.chan.get h).lineTakes_reads line true
  unfold State.pulsedTxn
  rw [State.edged_chan, txn, deviation]
  rfl

theorem State.edged_gains (s : State) (h : Hose) (line : MeterLine) (time : Nat) :
    (s.edged h line time).grossGain h = s.grossGain h ∧ (s.edged h line time).netGain h = s.netGain h := by
  obtain ⟨txn, -⟩ := (s.chan.get h).lineTakes_reads line true
  unfold State.grossGain State.netGain
  rw [State.edged_pulsedTxn, State.edged_chan, txn]
  exact ⟨rfl, rfl⟩

/-- Settles O45: the edge, then the pulse. -/
theorem transactionPulseMeters : Obligations.TransactionPulseMeters := by
  intro s h line time normal bound active unpaused low alternates forward free grossLow netLow c x k gross w net n
  let u := s.edged h line time
  have chan : u.chan.get h = c.lineTakes line true := s.edged_chan h line time
  obtain ⟨txn, deviation, clamped, temp, bound', debt⟩ := c.lineTakes_reads line true
  have route : u.onTransactionRoute h = true := by
    unfold State.onTransactionRoute
    rw [chan, bound', show c.bound = true from bound]
    simp only [Bool.true_and, Bool.and_eq_true, bne_iff_ne]
    exact ⟨active, unpaused⟩
  have below : ¬ atCeiling (u.chan.get h).txn.gross (u.chan.get h).txn.net = true := by
    rw [chan, txn]
    simp only [atCeiling, Bool.or_eq_true, decide_eq_true_iff, not_or, not_le]
    exact ⟨grossLow, netLow⟩
  have run : exec (.pulseEdge h line true time) s = (u.transactionPulse h).finish := by
    rw [exec_rising time normal low, if_neg alternates, if_pos forward]
    refine congrArg State.finish ((if_pos ?_).trans ((if_pos route).trans (if_neg below)))
    rw [State.edged_chan, debt]
    exact free
  have grossGain : u.grossGain h = k := (s.edged_gains h line time).1.trans (Nat.add_sub_cancel_left _ _)
  have netGain : u.netGain h = n := (s.edged_gains h line time).2
  have context : u.pulsedTxn h = s.pulsedTxn h := s.edged_pulsedTxn h line time
  obtain ⟨flat, stays, flags⟩ := u.transactionPulse_frame h
  have overrun := u.transactionPulse_overrun h
  have before : u.availableStock (hoseComp h) = s.availableStock (hoseComp h) := s.edged_available h line time _
  have restocked (some : 0 < n) : restockFollows (hoseComp h) u (u.transactionPulse h) := by
    unfold State.handed at stays
    rw [netGain] at stays
    exact restockFollows_of_handNet (u := u.metered h) some rfl rfl rfl rfl stays
  have stock : (u.handed h).stock = ((u.metered h).debitStock (hoseComp h) n (u.availableStock (hoseComp h))).stock := by
    unfold State.handed
    rw [netGain, State.handNet_frame]
  rw [netGain, context] at overrun
  rw [netGain] at flat
  have channel : (u.metered h).chan = s.chan.set h
      { c.lineTakes line true with
        txn :=
          { kq := c.txn.kq, remainder := (c.txn.remainder + 1000) % c.txn.kq, gross := gross, w := w
            net := net, amount := amountOf net ((s.slots.get h).price.getD 0) }
        grossTotalizer := (c.grossTotalizer + k) % 100000000000
        netTotalizer := (c.netTotalizer + n) % 100000000000 } := by
    have set : (u.metered h).chan = u.chan.set h
        (({ u.chan.get h with txn := u.pulsedTxn h } : Channel).totalize (u.grossGain h) (u.netGain h)) := rfl
    rw [set, grossGain, netGain, context, chan]
    refine (PerHose.set_set s.chan h _ _).trans ?_
    cases line <;> rfl
  have marks : ((u.metered h).slots.get h).flags =
      if k = 0 then (s.slots.get h).flags
      else
        { (s.slots.get h).flags with
          tempClamped := (s.slots.get h).flags.tempClamped || c.weightsClamped
          tcSubstituted := (s.slots.get h).flags.tcSubstituted || c.tempState == .substituted } := by
    unfold State.metered
    simp only
    rw [grossGain, chan]
    split
    · rfl
    · rw [PerHose.get_set_same]
      unfold SlotFlags.weigh
      simp only
      rw [clamped, temp]
      rfl
  have figures (some : 0 < n) :=
    State.debitStock_figures (s := u.metered h) (c := hoseComp h) (before := u.availableStock (hoseComp h)) some
  have still (none : n = 0) : (u.handed h).stock = s.stock := by
    rw [stock, none, State.debitStock_none]
    rfl
  have others (d : Comp) (other : d ≠ hoseComp h) : (u.handed h).stock.get d = s.stock.get d := by
    rcases Nat.eq_zero_or_pos n with none | some
    · rw [still none]
    · rw [stock]
      exact (figures some).2.2 d other
  generalize u.transactionPulse h = t at *
  generalize u.handed h = z at *
  have stocked : t.stock = z.stock := by rw [flat]
  refine ⟨_, run.trans (State.finish_eq _), ?_, ?_, fun none => ?_, fun some => ⟨?_, ?_⟩, fun some => ?_, ?_,
    fun d other => ?_, ?_, flags.trans marks, ?_⟩
  · rw [flat]; rfl
  · rw [flat]; exact channel
  · exact stocked.trans (still none)
  · exact (congrArg (fun x => (x.get (hoseComp h)).book) (stocked.trans stock)).trans (figures some).1
  · exact (congrArg (fun x => (x.get (hoseComp h)).dispensed) (stocked.trans stock)).trans (figures some).2.1
  · exact restockFollows_congr before rfl rfl rfl rfl (restocked some)
  · rw [flat]; rfl
  · exact (congrArg (fun x => x.get d) stocked).trans (others d other)
  · split at overrun
    · next past =>
      obtain ⟨follows, reported⟩ := overrun
      have joined := exceptionFollows_congr (s := s) (u := u) (by rw [chan]; exact bound') rfl rfl follows
      exact (if_pos (by exact past)).mpr ⟨joined, reported⟩
    · next within => exact (if_neg (by exact within)).mpr fun some => overrun some
  · rw [flat]; rfl

end Sys2Proof.Machine
end

section
/-! The other edges of a meter line (R3 to R6, R19, R22, R31, R46, R47, R121, R128, R141). -/

namespace Sys2Proof.Machine

open Sys2Proof

variable {s t u w : State} {p : Port} {h k : Hose} {c d : Comp}

/-! ### Phase errors and reverse pulses (R4 to R6) -/

/-- A metering exception that closes its slot (R45). -/
theorem State.meterReport_facts (s : State) (h : Hose) (code : MeterException) (normal : s.supply = .normal) :
    let t := s.meterReport h code
    t = { s with slots := t.slots, hoseCtl := t.hoseCtl, tracking := t.tracking, pumps := t.pumps, ports := t.ports }
      ∧ (t.hoseCtl.get h).pendingException = bumpException code (s.hoseCtl.get h).pendingException
      ∧ (t.ports.get .panel).hasFlag .panel (.exception h) = true
      ∧ ((s.slotState h).running = true → t.slots = s.slots.set h
          { s.slots.get h with state := .closing, endCause := some .meterException }) := by
  intro t
  let v := s.meterException h code
  have closes : SlotStep v t := SlotStep.enterClosing v h .meterException
  refine ⟨?_, (closes.keeps h).pending.trans ?_, closes.flags.hasFlag (State.raise_hasFlag normal ?_), fun runs => ?_⟩
  · exact closes.frame
  · unfold v
    rw [State.meterException_hoseCtl, PerHose.get_set_same]
  · cases h <;> decide
  · exact congrArg State.slots (State.enterClosing_eq (s := v) .meterException runs)

theorem State.edged_kq (s : State) (h : Hose) (line : MeterLine) (time : Nat) :
    (s.edged h line time).kqInEffect h = s.kqInEffect h := by
  obtain ⟨txn, -, -, -, bound, -⟩ := (s.chan.get h).lineTakes_reads line true
  unfold State.kqInEffect
  rw [State.edged_chan, bound, txn]
  rfl

theorem Channel.lineTakes_marks (x : Channel) (line : MeterLine) (high : Bool) :
    (x.lineTakes line high).phaseErrors = x.phaseErrors ∧ (x.lineTakes line high).excessReported = x.excessReported
      ∧ (x.lineTakes line high).ceilingReported = x.ceilingReported
      ∧ (x.lineTakes line high).unattributed = x.unattributed := by
  cases line <;> exact ⟨rfl, rfl, rfl, rfl⟩

/-- A change of the channel at the edge. -/
theorem State.edged_modChan (s : State) (h : Hose) (line : MeterLine) (time : Nat) (f : Channel → Channel) :
    (s.edged h line time).modChan h f =
      { s with now := max s.now time, chan := s.chan.set h (f ((s.chan.get h).lineTakes line true)) } := by
  unfold State.modChan
  rw [State.edged_chan]
  unfold State.edged
  simp only [PerHose.set_set]

/-! ### Closings at a pulse (R31, R121) -/

/-- Where `acts` holds the slot goes to CLOSING with the cause and its leak window ends; else both stand. -/
def ClosesWhere (h : Hose) (cause : EndCause) (acts : Prop) (s t : State) : Prop :=
  (acts → t.slots.get h = { s.slots.get h with state := .closing, endCause := some cause }
    ∧ (t.hoseCtl.get h).leakWindow = [])
  ∧ (¬ acts → t.slots.get h = s.slots.get h ∧ (t.hoseCtl.get h).leakWindow = (s.hoseCtl.get h).leakWindow)

theorem ClosesWhere.of_fields {cause : EndCause} {acts : Prop} (f : ClosesWhere h cause acts s t)
    (slots : u.slots = t.slots) (ctl : u.hoseCtl = t.hoseCtl) : ClosesWhere h cause acts s u := by
  unfold ClosesWhere
  rw [slots, ctl]
  exact f

theorem ClosesWhere.stays {cause : EndCause} {acts : Prop} (rests : ¬ acts) (slot : t.slots.get h = s.slots.get h)
    (ctl : (t.hoseCtl.get h).leakWindow = (s.hoseCtl.get h).leakWindow) : ClosesWhere h cause acts s t :=
  ⟨fun acts => absurd acts rests, fun _ => ⟨slot, ctl⟩⟩

theorem ClosesWhere.enterClosing (s : State) (h : Hose) (cause : EndCause) :
    ClosesWhere h cause ((s.slotState h).running = true) s (s.enterClosing h cause) := by
  refine ⟨fun runs => ?_, fun stopped => ?_⟩
  · rw [State.enterClosing_eq cause runs]
    simp [HoseControl.settling]
  · rw [State.enterClosing_idle s cause (Bool.eq_false_iff.mpr stopped)]
    exact ⟨rfl, rfl⟩

/-- A cut closes each running slot of its compartment (R121). -/
theorem ClosesWhere.closeForCut (s : State) (h : Hose) :
    ClosesWhere h .deadStock ((s.slotState h).running = true) s (s.closeForCut (hoseComp h)) := by
  cases h with
  | h1 =>
    obtain ⟨acts, rests⟩ := ClosesWhere.enterClosing s .h1 .deadStock
    obtain ⟨slots, -, ctl, -⟩ := sameOtherHoses.enterClosing (s.enterClosing .h1 .deadStock) .h2 .deadStock .h1 (by decide)
    refine ⟨fun runs => ?_, fun stopped => ?_⟩ <;> unfold State.closeForCut hoseComp <;> simp only <;> rw [slots, ctl]
    · exact acts runs
    · exact rests stopped
  | h2 =>
    obtain ⟨slots, -, ctl, -⟩ := sameOtherHoses.enterClosing s .h1 .deadStock .h2 (by decide)
    have second := ClosesWhere.enterClosing (s.enterClosing .h1 .deadStock) .h2 .deadStock
    unfold ClosesWhere State.slotState at *
    rwa [slots, ctl] at second
  | h3 => exact ClosesWhere.enterClosing s .h3 .deadStock

/-- An increment that takes book stock to the dead stock of a compartment not yet cut. -/
def State.cutBy (s : State) (c : Comp) (n : Nat) : Prop :=
  0 < n ∧ (s.stock.get c).cut = false ∧ max (-549755813888) ((s.stock.get c).book - n) ≤ s.cal.dead.get c

theorem ClosesWhere.debited {n : Nat} (s : State) (h : Hose) (some : 0 < n) :
    ClosesWhere h .deadStock ((s.slotState h).running = true ∧ s.cutBy (hoseComp h) n) s (s.debited (hoseComp h) n) := by
  let x := s.modStock (hoseComp h) fun x => x.debit n
  have stock : x.stock.get (hoseComp h) = (s.stock.get (hoseComp h)).debit n := PerComp.get_set_same _ _ _
  have cutBy : s.cutBy (hoseComp h) n
      ↔ (x.stock.get (hoseComp h)).cut = false ∧ (x.stock.get (hoseComp h)).book ≤ x.cal.dead.get (hoseComp h) := by
    rw [stock]
    exact ⟨fun ⟨_, uncut, low⟩ => ⟨uncut, low⟩, fun ⟨uncut, low⟩ => ⟨some, uncut, low⟩⟩
  unfold State.debited
  by_cases cuts : s.cutBy (hoseComp h) n
  · have e := State.evaluateCut_of_low (s := x) (c := hoseComp h) (cutBy.mp cuts).2 (cutBy.mp cuts).1
    have closed := ClosesWhere.closeForCut ((x.modStock (hoseComp h) fun y => { y with cut := true }).modPump (hoseComp h)
      fun p => { p with runOn := none }) h
    obtain ⟨acts, rests⟩ := closed
    rw [e]
    generalize State.closeForCut _ (hoseComp h) = y at acts rests ⊢
    exact ⟨fun both => acts both.1, fun neither => rests fun runs => neither ⟨runs, cuts⟩⟩
  · have spared := State.evaluateCut_spares (s := x) (c := hoseComp h) (by
      by_contra both
      simp only [not_or, not_not, Bool.not_eq_true] at both
      exact cuts (cutBy.mpr both))
    exact ClosesWhere.stays (fun both => cuts both.2) (by rw [spared.1]; rfl) (by rw [spared.2.1]; rfl)

theorem ClosesWhere.handNet (s : State) (h : Hose) (n before : Nat) :
    ClosesWhere h .deadStock ((s.slotState h).running = true ∧ s.cutBy (hoseComp h) n) s
      (s.handNet (hoseComp h) n before) := by
  have debit : ClosesWhere h .deadStock ((s.slotState h).running = true ∧ s.cutBy (hoseComp h) n) s
      (s.debitStock (hoseComp h) n before) := by
    rcases Nat.eq_zero_or_pos n with rfl | some
    · rw [State.debitStock_none]
      exact ClosesWhere.stays (fun both => absurd both.2.1 (Nat.lt_irrefl 0)) rfl rfl
    · have cut := ClosesWhere.debited s h some
      rw [State.debitStock_some _ before some, State.restockIfFell_frame]
      exact cut.of_fields rfl rfl
  rw [State.handNet_frame]
  exact debit.of_fields rfl rfl

theorem FlagsStand.handNet (s : State) (c : Comp) (n before : Nat) : FlagsStand s (s.handNet c n before) := by
  have debit : FlagsStand s (s.debitStock c n before) := by
    rcases Nat.eq_zero_or_pos n with rfl | some
    · rw [State.debitStock_none]
      exact FlagsStand.refl s
    · rw [State.debitStock_some _ before some]
      have debited : FlagsStand s (s.debited c n) := by
        unfold State.debited
        exact FlagsStand.trans (FlagsStand.of_ports rfl) (FlagsStand.evaluateCut _ c)
      exact debited.trans (FlagsStand.restockIfFell _ c before)
  have counted : (s.handNet c n before).ports = (s.debitStock c n before).ports := by rw [State.handNet_frame]
  exact debit.trans (FlagsStand.of_ports counted)

/-! ### The ceiling report (R8, R31) -/

/-- The mark of a reported ceiling. -/
def State.ceilingMarked (s : State) (h : Hose) : State := s.modChan h fun x => { x with ceilingReported := true }

theorem State.reportCeiling_again (reported : (s.chan.get h).ceilingReported = true) : s.reportCeiling h = s :=
  if_pos reported

theorem State.reportCeiling_first (first : (s.chan.get h).ceilingReported = false) :
    s.reportCeiling h =
      if (s.slotState h).delivers then (s.ceilingMarked h).enterClosing h .presetReached else s.ceilingMarked h :=
  if_neg (by simp [first])

theorem State.ceilingMarked_step (s : State) (h : Hose) :
    (∀ k, HoseKeeps k s (s.ceilingMarked h)) ∧ ∀ c, RestockStays c s (s.ceilingMarked h) := by
  refine ⟨fun k => HoseKeeps.of_same rfl rfl, fun c => ⟨rfl, rfl, fun k => ?_, FlagsStand.of_ports rfl⟩⟩
  have txn : ((s.ceilingMarked h).chan.get k).txn = (s.chan.get k).txn := by
    by_cases same : k = h
    · subst same
      simp [State.ceilingMarked]
    · simp [State.ceilingMarked, same]
  unfold State.reservedRemainder
  rw [txn]
  rfl

/-- What a ceiling report leaves (R8). -/
theorem State.reportCeiling_facts (s : State) (h : Hose) :
    let t := s.reportCeiling h
    t = { s with
      chan := s.chan.set h { s.chan.get h with ceilingReported := true }
      slots := t.slots, hoseCtl := t.hoseCtl, tracking := t.tracking, pumps := t.pumps, ports := t.ports }
    ∧ (∀ k, HoseKeeps k s t) ∧ (∀ c, RestockStays c s t)
    ∧ ClosesWhere h .presetReached ((s.slotState h).delivers = true ∧ (s.chan.get h).ceilingReported = false) s t := by
  intro t
  cases reported : (s.chan.get h).ceilingReported with
  | true =>
    have same : s.chan.set h { s.chan.get h with ceilingReported := true } = s.chan := by
      rw [← reported]
      cases h <;> rfl
    unfold t
    rw [State.reportCeiling_again reported, same]
    exact ⟨rfl, fun k => HoseKeeps.refl k s, fun c => RestockStays.refl c s,
      ClosesWhere.stays (fun both => Bool.noConfusion both.2) rfl rfl⟩
  | false =>
    obtain ⟨keeps, stays⟩ := s.ceilingMarked_step h
    cases delivers : (s.slotState h).delivers with
    | true =>
      have e : t = (s.ceilingMarked h).enterClosing h .presetReached :=
        (State.reportCeiling_first reported).trans (if_pos delivers)
      have closes := SlotStep.enterClosing (s.ceilingMarked h) h .presetReached
      have where_ := ClosesWhere.enterClosing (s.ceilingMarked h) h .presetReached
      rw [e]
      refine ⟨?_, fun k => (keeps k).trans (closes.keeps k), fun c => (stays c).trans (closes.restock c), ?_⟩
      · exact closes.frame
      · exact ⟨fun _ => where_.1 (SlotState.running_of_delivers delivers), fun neither => absurd ⟨rfl, rfl⟩ neither⟩
    | false =>
      have e : t = s.ceilingMarked h := (State.reportCeiling_first reported).trans (if_neg (by simp [delivers]))
      rw [e]
      exact ⟨rfl, keeps, stays, ClosesWhere.stays (fun both => Bool.noConfusion both.1) rfl rfl⟩

/-! ### LEAK (R46) -/

/-- The valves are closed, the slot is not CLOSING and detection is armed (R46). -/
def State.leakWatched (s : State) (h : Hose) : Prop :=
  ((s.slotState h).authorised = false ∨ s.slotState h = .paused) ∧ (s.hoseCtl.get h).leakArmed = true

/-- The window of the latest three pulses. -/
def State.leakWindowNow (s : State) (h : Hose) : List Nat :=
  ((s.hoseCtl.get h).leakWindow ++ [s.now]).drop ((s.hoseCtl.get h).leakWindow.length - 2)

theorem State.pushTaking_leakWindow (s : State) (h : Hose) :
    pushTaking (s.hoseCtl.get h).leakWindow s.now = s.leakWindowNow h := by
  unfold pushTaking State.leakWindowNow
  simp only [List.length_append, List.length_singleton]
  congr 1

/-- The window is full where it holds three pulses and the third came within 10 s of the first (R46, log 3). -/
theorem State.leakWindow_full (s : State) (h : Hose) :
    windowFull (s.leakWindowNow h) 10000 = true
      ↔ (s.leakWindowNow h).length = 3 ∧ s.now ≤ (s.leakWindowNow h).headD 0 + 10000 := by
  have parts : s.leakWindowNow h =
      (s.hoseCtl.get h).leakWindow.drop ((s.hoseCtl.get h).leakWindow.length - 2) ++ [s.now] :=
    List.drop_append_of_le_length (Nat.sub_le _ _)
  rw [parts]
  generalize (s.hoseCtl.get h).leakWindow.drop ((s.hoseCtl.get h).leakWindow.length - 2) = earlier
  match earlier with
  | [] => simp [windowFull]
  | [a] => simp [windowFull]
  | [a, b] => simp [windowFull]
  | a :: b :: d :: rest => simp [windowFull]

theorem State.leakRoute_iff (s : State) (h : Hose) :
    ((s.slotState h).authorised && s.slotState h != .paused) = true
      ↔ ¬ ((s.slotState h).authorised = false ∨ s.slotState h = .paused) := by
  rw [Bool.and_eq_true, bne_iff_ne, not_or, Bool.not_eq_false]

theorem State.senseLeak_unwatched (unwatched : ¬ s.leakWatched h) : s.senseLeak h = s := by
  unfold State.senseLeak
  by_cases route : ((s.slotState h).authorised && s.slotState h != .paused) = true
  · rw [if_pos route]
  · rw [if_neg route, if_neg fun armed => unwatched ⟨not_not.mp ((s.leakRoute_iff h).not.mp route), armed⟩]

theorem State.senseLeak_watched (watched : s.leakWatched h) :
    s.senseLeak h =
      if windowFull (s.leakWindowNow h) 10000 then
        ((s.modHoseCtl h fun x => { x with leakWindow := s.leakWindowNow h }).modHoseCtl h fun x =>
          { x with leakArmed := false }).meterException h .leak
      else s.modHoseCtl h fun x => { x with leakWindow := s.leakWindowNow h } := by
  obtain ⟨shut, armed⟩ := watched
  unfold State.senseLeak
  rw [if_neg ((s.leakRoute_iff h).not.mpr (not_not.mpr shut)), if_pos armed, ← State.pushTaking_leakWindow]

/-- What LEAK detection does at a pulse, in either case (R46). -/
theorem State.senseLeak_facts (s : State) (h : Hose) :
    let t := s.senseLeak h
    let full : Prop := (s.leakWindowNow h).length = 3 ∧ s.now ≤ (s.leakWindowNow h).headD 0 + 10000
    (t.hoseCtl.get h).accumulator = (s.hoseCtl.get h).accumulator
      ∧ (s.leakWatched h → (t.hoseCtl.get h).leakWindow = s.leakWindowNow h)
      ∧ (¬ s.leakWatched h → (t.hoseCtl.get h).leakWindow = (s.hoseCtl.get h).leakWindow)
      ∧ (s.leakWatched h ∧ full → exceptionFollows h .leak s t ∧ (t.hoseCtl.get h).leakArmed = false)
      ∧ (¬ (s.leakWatched h ∧ full) →
          exceptionStands h s t ∧ (t.hoseCtl.get h).leakArmed = (s.hoseCtl.get h).leakArmed) := by
  intro t full
  by_cases watched : s.leakWatched h
  · by_cases filled : windowFull (s.leakWindowNow h) 10000 = true
    · have isFull : full := (s.leakWindow_full h).mp filled
      let v := (s.modHoseCtl h fun x => { x with leakWindow := s.leakWindowNow h }).modHoseCtl h fun x =>
        { x with leakArmed := false }
      have ctl : v.hoseCtl.get h =
          { s.hoseCtl.get h with leakWindow := s.leakWindowNow h, leakArmed := false } := by simp [v]
      have e : t = v.meterException h .leak := (State.senseLeak_watched watched).trans (if_pos filled)
      have follows : exceptionFollows h .leak s t := by
        rw [e]
        exact exceptionFollows_of (u := v) (by rw [ctl]) (by rw [ctl]) rfl rfl (HoseKeeps.refl h _) (FlagsStand.refl _)
      have after : t.hoseCtl.get h =
          { v.hoseCtl.get h with
            pendingException := bumpException .leak (v.hoseCtl.get h).pendingException
            transactionException :=
              if (v.chan.get h).bound then bumpException .leak (v.hoseCtl.get h).transactionException
              else (v.hoseCtl.get h).transactionException } := by
        rw [e, State.meterException_hoseCtl, PerHose.get_set_same]
      exact ⟨by rw [after, ctl], fun _ => by rw [after, ctl], fun unwatched => absurd watched unwatched,
        fun _ => ⟨follows, by rw [after, ctl]⟩, fun neither => absurd ⟨watched, isFull⟩ neither⟩
    · have unfilled : ¬ full := (s.leakWindow_full h).not.mp filled
      have e : t = s.modHoseCtl h fun x => { x with leakWindow := s.leakWindowNow h } :=
        (State.senseLeak_watched watched).trans (if_neg filled)
      have after : t.hoseCtl.get h = { s.hoseCtl.get h with leakWindow := s.leakWindowNow h } := by
        rw [e]
        simp
      exact ⟨by rw [after], fun _ => by rw [after], fun unwatched => absurd watched unwatched,
        fun both => absurd both.2 unfilled, fun _ => ⟨⟨by rw [after], by rw [after]⟩, by rw [after]⟩⟩
  · have e : t = s := State.senseLeak_unwatched watched
    rw [e]
    exact ⟨rfl, fun on => absurd on watched, fun _ => rfl, fun both => absurd both.1 watched,
      fun _ => ⟨⟨rfl, rfl⟩, rfl⟩⟩

/-! ### The unattributed pulse (R19, R47) -/

/-- The context that takes the pulse, and what it leaves. -/
def State.openedContext (s : State) (h : Hose) : UnattributedContext :=
  openContext (s.chan.get h).unattributed (s.cal.alpha.get (hoseComp h))

def State.pulsedContext (s : State) (h : Hose) : UnattributedContext :=
  (s.openedContext h).pulse (s.kqInEffect h) (s.chan.get h).deviation

def State.asideGross (s : State) (h : Hose) : Nat := (s.pulsedContext h).gross - (s.openedContext h).gross

def State.asideNet (s : State) (h : Hose) : Nat := (s.pulsedContext h).net - (s.openedContext h).net

/-- The channel and the accumulator after the pulse. -/
def State.accumulated (s : State) (h : Hose) : State :=
  (s.modChan h fun x =>
    ({ x with unattributed := some (s.pulsedContext h) } : Channel).totalize (s.asideGross h) (s.asideNet h)).modHoseCtl
    h fun x => { x with accumulator := x.accumulator.gain (s.asideGross h) (s.asideNet h) s.clock.counter }

/-- The pulse before its increment is handed on. -/
def State.leakSensed (s : State) (h : Hose) : State := (s.accumulated h).senseLeak h

theorem State.unattributedPulse_eq (s : State) (h : Hose) :
    s.unattributedPulse h =
      (s.leakSensed h).handNet (hoseComp h) (s.asideNet h) (s.availableStock (hoseComp h)) := rfl

theorem State.leakSensed_frame (s : State) (h : Hose) :
    s.leakSensed h =
      { s with
        chan := (s.accumulated h).chan, hoseCtl := (s.leakSensed h).hoseCtl, ports := (s.leakSensed h).ports } := by
  unfold State.leakSensed
  rw [State.senseLeak_frame]
  rfl

/-- What an unattributed pulse leaves, its LEAK detection apart (R19, R121, R141). -/
theorem State.unattributedPulse_facts (s : State) (h : Hose) :
    let t := s.unattributedPulse h
    t = { s with
      chan := (s.accumulated h).chan, slots := t.slots, hoseCtl := t.hoseCtl, tracking := t.tracking, pumps := t.pumps
      stock := t.stock, ports := t.ports
      receipts := s.receipts.set (hoseComp h) ((s.receipts.get (hoseComp h)).counting (s.asideNet h)) }
    ∧ t.stock = ((s.leakSensed h).debitStock (hoseComp h) (s.asideNet h) (s.availableStock (hoseComp h))).stock
    ∧ HoseKeeps h (s.leakSensed h) t ∧ FlagsStand (s.leakSensed h) t
    ∧ ClosesWhere h .deadStock ((s.slotState h).running = true ∧ s.cutBy (hoseComp h) (s.asideNet h)) (s.leakSensed h)
        t := by
  intro t
  have e : t = (s.leakSensed h).handNet (hoseComp h) (s.asideNet h) (s.availableStock (hoseComp h)) := rfl
  have slots : (s.leakSensed h).slotState h = s.slotState h := by rw [State.leakSensed_frame]; rfl
  have cutBy : (s.leakSensed h).cutBy (hoseComp h) (s.asideNet h) ↔ s.cutBy (hoseComp h) (s.asideNet h) := by
    rw [State.leakSensed_frame]
    rfl
  have closes := ClosesWhere.handNet (s.leakSensed h) h (s.asideNet h) (s.availableStock (hoseComp h))
  have keeps := HoseKeeps.handNet h (s.leakSensed h) (hoseComp h) (s.asideNet h) (s.availableStock (hoseComp h))
  have flags := FlagsStand.handNet (s.leakSensed h) (hoseComp h) (s.asideNet h) (s.availableStock (hoseComp h))
  have frame := (s.leakSensed h).handNet_frame (hoseComp h) (s.asideNet h) (s.availableStock (hoseComp h))
  rw [slots, cutBy] at closes
  have stock : t.stock = ((s.leakSensed h).debitStock (hoseComp h) (s.asideNet h) (s.availableStock (hoseComp h))).stock := by
    rw [e, frame]
  rw [← e] at closes keeps flags frame
  refine ⟨?_, stock, keeps, flags, closes⟩
  clear_value t
  rw [frame, State.leakSensed_frame]

/-! ### A pulse that leaves the transaction aside (R2, R8, R31) -/

/-- A pulse off the transaction route, or diverted from it at the ceiling. -/
def State.asidePulse (s : State) (h : Hose) : State :=
  if s.onTransactionRoute h then (s.unattributedPulse h).reportCeiling h else s.unattributedPulse h

theorem State.countedPulse_aside (aside : s.onTransactionRoute h = true →
    atCeiling (s.chan.get h).txn.gross (s.chan.get h).txn.net = true) : s.countedPulse h = s.asidePulse h := by
  unfold State.countedPulse State.asidePulse
  by_cases route : s.onTransactionRoute h = true
  · rw [if_pos route, if_pos route, if_pos (aside route)]
  · rw [if_neg route, if_neg route]

/-- The ceiling report of a diverted pulse closes its slot (R31). -/
def State.ceilingCloses (s : State) (h : Hose) : Prop :=
  s.onTransactionRoute h = true ∧ (s.slotState h).delivers = true ∧ (s.chan.get h).ceilingReported = false

theorem State.accumulated_chan (s : State) (h : Hose) :
    (s.accumulated h).chan = s.chan.set h
      (({ s.chan.get h with unattributed := some (s.pulsedContext h) } : Channel).totalize (s.asideGross h)
        (s.asideNet h)) := rfl

/-- The channel after a pulse aside. -/
def State.asideChannel (s : State) (h : Hose) : Channel :=
  { ({ s.chan.get h with unattributed := some (s.pulsedContext h) } : Channel).totalize (s.asideGross h) (s.asideNet h) with
    ceilingReported := (s.chan.get h).ceilingReported || s.onTransactionRoute h }

theorem State.asidePulse_frame (s : State) (h : Hose) :
    let t := s.asidePulse h
    t = { s with
      chan := s.chan.set h (s.asideChannel h), slots := t.slots, hoseCtl := t.hoseCtl, tracking := t.tracking
      pumps := t.pumps, stock := (s.unattributedPulse h).stock, ports := t.ports
      receipts := s.receipts.set (hoseComp h) ((s.receipts.get (hoseComp h)).counting (s.asideNet h)) }
    ∧ HoseKeeps h (s.leakSensed h) t ∧ FlagsStand (s.leakSensed h) t
    ∧ RestockStays (hoseComp h) (s.unattributedPulse h) t := by
  intro t
  obtain ⟨frame, -, keeps, flags, -⟩ := s.unattributedPulse_facts h
  have chan : (s.unattributedPulse h).chan = s.chan.set h
      (({ s.chan.get h with unattributed := some (s.pulsedContext h) } : Channel).totalize (s.asideGross h)
        (s.asideNet h)) := (congrArg State.chan frame).trans (s.accumulated_chan h)
  cases route : s.onTransactionRoute h with
  | false =>
    have e : t = s.unattributedPulse h := if_neg (by simp [route])
    have channel : s.asideChannel h =
        ({ s.chan.get h with unattributed := some (s.pulsedContext h) } : Channel).totalize (s.asideGross h)
          (s.asideNet h) := by
      unfold State.asideChannel
      rw [route, Bool.or_false]
      rfl
    rw [e, channel, ← chan]
    generalize s.unattributedPulse h = a at *
    refine ⟨?_, keeps, flags, RestockStays.refl _ a⟩
    rw [frame]
  | true =>
    have e : t = (s.unattributedPulse h).reportCeiling h := if_pos route
    have channel : s.asideChannel h =
        { ({ s.chan.get h with unattributed := some (s.pulsedContext h) } : Channel).totalize (s.asideGross h)
            (s.asideNet h) with ceilingReported := true } := by
      unfold State.asideChannel
      rw [route, Bool.or_true]
    obtain ⟨reported, keeps', stays, -⟩ := (s.unattributedPulse h).reportCeiling_facts h
    rw [e, channel]
    generalize (s.unattributedPulse h).reportCeiling h = b at *
    generalize s.unattributedPulse h = a at *
    refine ⟨?_, keeps.trans (keeps' h), flags.trans (stays .a).flags, stays _⟩
    rw [chan, PerHose.get_set_same, PerHose.set_set] at reported
    rw [reported, frame]

/-- Where a pulse aside closes its slot, and where it leaves it (R31, R121, log 13). -/
theorem State.asidePulse_slot (s : State) (h : Hose) :
    let t := s.asidePulse h
    let cut : Prop := (s.slotState h).running = true ∧ s.cutBy (hoseComp h) (s.asideNet h)
    (cut → t.slots.get h = { s.slots.get h with state := .closing, endCause := some .deadStock }
      ∧ (t.hoseCtl.get h).leakWindow = [])
    ∧ (¬ cut → s.ceilingCloses h →
      t.slots.get h = { s.slots.get h with state := .closing, endCause := some .presetReached }
      ∧ (t.hoseCtl.get h).leakWindow = [])
    ∧ (¬ cut → ¬ s.ceilingCloses h → t.slots.get h = s.slots.get h
      ∧ (t.hoseCtl.get h).leakWindow = ((s.leakSensed h).hoseCtl.get h).leakWindow) := by
  intro t cut
  obtain ⟨frame, -, -, -, ⟨cuts, stays⟩⟩ := s.unattributedPulse_facts h
  have slot : (s.leakSensed h).slots = s.slots := by rw [State.leakSensed_frame]
  rw [slot] at cuts stays
  have ceiling : ((s.unattributedPulse h).chan.get h).ceilingReported = (s.chan.get h).ceilingReported := by
    rw [frame, State.accumulated_chan, PerHose.get_set_same]
    rfl
  cases route : s.onTransactionRoute h with
  | false =>
    have e : t = s.unattributedPulse h := if_neg (by simp [route])
    have never : ¬ s.ceilingCloses h := fun closes => Bool.noConfusion (route.symm.trans closes.1)
    rw [e]
    exact ⟨cuts, fun _ closes => absurd closes never, fun spared _ => stays spared⟩
  | true =>
    have e : t = (s.unattributedPulse h).reportCeiling h := if_pos route
    obtain ⟨-, -, -, ⟨closes, rests⟩⟩ := (s.unattributedPulse h).reportCeiling_facts h
    rw [ceiling] at closes rests
    rw [e]
    refine ⟨fun isCut => ?_, fun spared ceils => ?_, fun spared open_ => ?_⟩
    · obtain ⟨closed, emptied⟩ := cuts isCut
      have idle : ¬ (((s.unattributedPulse h).slotState h).delivers = true ∧ (s.chan.get h).ceilingReported = false) := by
        rw [State.slotState, closed]
        exact fun both => Bool.noConfusion both.1
      obtain ⟨same, window⟩ := rests idle
      exact ⟨same.trans closed, window.trans emptied⟩
    · obtain ⟨same, -⟩ := stays spared
      obtain ⟨closed, emptied⟩ := closes ⟨by rw [State.slotState, same]; exact ceils.2.1, ceils.2.2⟩
      exact ⟨closed.trans (by rw [same]), emptied⟩
    · obtain ⟨same, window⟩ := stays spared
      have idle : ¬ (((s.unattributedPulse h).slotState h).delivers = true ∧ (s.chan.get h).ceilingReported = false) := by
        rw [State.slotState, same]
        exact fun both => open_ ⟨route, both.1, both.2⟩
      obtain ⟨same', window'⟩ := rests idle
      exact ⟨same'.trans same, window'.trans window⟩

/-- The transaction's context stands, and its reserved remainder with it (R107). -/
theorem State.accumulated_reserved (s : State) (h k : Hose) :
    (s.accumulated h).reservedRemainder k = s.reservedRemainder k := by
  have txn : ((s.accumulated h).chan.get k).txn = (s.chan.get k).txn := by
    rw [State.accumulated_chan]
    by_cases same : k = h
    · subst same
      rw [PerHose.get_set_same]
      rfl
    · rw [PerHose.get_set_ne _ _ same]
  unfold State.reservedRemainder
  rw [txn]
  rfl

/-- The restock test of a pulse aside (R128). -/
theorem State.asidePulse_restock (s : State) (h : Hose) : restockFollows (hoseComp h) s (s.asidePulse h) := by
  obtain ⟨-, -, -, stays⟩ := s.asidePulse_frame h
  rcases Nat.eq_zero_or_pos (s.asideNet h) with none | some
  · have still : s.unattributedPulse h =
        { s.leakSensed h with
          receipts := s.receipts.set (hoseComp h) ((s.receipts.get (hoseComp h)).counting 0) } := by
      rw [State.unattributedPulse_eq, none, State.handNet_frame, State.debitStock_none, State.leakSensed_frame]
    have stock : (s.unattributedPulse h).stock = s.stock := by rw [still, State.leakSensed_frame]
    have available : (s.unattributedPulse h).availableStock (hoseComp h) = s.availableStock (hoseComp h) := by
      refine State.availableStock_congr (by rw [stock]) (by rw [still, State.leakSensed_frame]) fun k => ?_
      rw [still, State.leakSensed_frame]
      exact s.accumulated_reserved h k
    unfold restockFollows
    rw [if_neg (by rw [stays.available, available]; exact Nat.lt_irrefl _)]
    have same : (s.asidePulse h).stock.get (hoseComp h) = s.stock.get (hoseComp h) := stays.stock.trans (by rw [stock])
    exact ⟨by rw [same], by rw [same]⟩
  · rw [State.unattributedPulse_eq] at stays
    refine restockFollows_of_handNet (u := s.leakSensed h) some ?_ ?_ ?_ ?_ stays <;> rw [State.leakSensed_frame]

theorem exceptionFollows.kept {code : MeterException} (follows : exceptionFollows h code s t) (keeps : HoseKeeps h t u)
    (flags : FlagsStand t u) : exceptionFollows h code s u := by
  obtain ⟨pending, transaction, flag⟩ := follows
  exact ⟨keeps.pending.trans pending, keeps.transaction.trans transaction, fun normal => flags.hasFlag (flag normal)⟩

theorem exceptionStands.kept (stands : exceptionStands h s t) (keeps : HoseKeeps h t u) : exceptionStands h s u :=
  ⟨keeps.pending.trans stands.1, keeps.transaction.trans stands.2⟩

/-- LEAK detection and the accumulator after a pulse aside (R46, R47). -/
theorem State.asidePulse_leak (s : State) (h : Hose) :
    let t := s.asidePulse h
    let full : Prop := (s.leakWindowNow h).length = 3 ∧ s.now ≤ (s.leakWindowNow h).headD 0 + 10000
    (t.hoseCtl.get h).accumulator =
        (s.hoseCtl.get h).accumulator.gain (s.asideGross h) (s.asideNet h) s.clock.counter
      ∧ (s.leakWatched h ∧ full → exceptionFollows h .leak s t ∧ (t.hoseCtl.get h).leakArmed = false)
      ∧ (¬ (s.leakWatched h ∧ full) →
          exceptionStands h s t ∧ (t.hoseCtl.get h).leakArmed = (s.hoseCtl.get h).leakArmed)
      ∧ (s.leakWatched h → ((s.leakSensed h).hoseCtl.get h).leakWindow = s.leakWindowNow h)
      ∧ (¬ s.leakWatched h → ((s.leakSensed h).hoseCtl.get h).leakWindow = (s.hoseCtl.get h).leakWindow) := by
  intro t full
  let a := s.accumulated h
  have ctl : a.hoseCtl.get h =
      { s.hoseCtl.get h with
        accumulator := (s.hoseCtl.get h).accumulator.gain (s.asideGross h) (s.asideNet h) s.clock.counter } :=
    PerHose.get_set_same _ _ _
  have bound : (a.chan.get h).bound = (s.chan.get h).bound := by
    rw [State.accumulated_chan, PerHose.get_set_same]
    rfl
  have watched : a.leakWatched h ↔ s.leakWatched h := by
    unfold State.leakWatched
    rw [ctl]
    rfl
  have window : a.leakWindowNow h = s.leakWindowNow h := by
    unfold State.leakWindowNow
    rw [ctl]
    rfl
  obtain ⟨accumulator, notes, rests, reports, quiet⟩ := a.senseLeak_facts h
  rw [watched, window] at notes reports quiet
  rw [watched] at rests
  rw [ctl] at accumulator rests quiet
  obtain ⟨-, keeps, flags, -⟩ := s.asidePulse_frame h
  refine ⟨keeps.accumulator.trans accumulator, fun both => ?_, fun neither => ?_, notes, rests⟩
  · obtain ⟨follows, disarmed⟩ := reports both
    have joined : exceptionFollows h .leak s (a.senseLeak h) := by
      obtain ⟨pending, transaction, flag⟩ := follows
      rw [ctl] at pending transaction
      rw [bound] at transaction
      exact ⟨pending, transaction, flag⟩
    exact ⟨joined.kept keeps flags, keeps.armed.trans disarmed⟩
  · obtain ⟨⟨pending, transaction⟩, armed⟩ := quiet neither
    rw [ctl] at pending transaction
    exact ⟨exceptionStands.kept ⟨pending, transaction⟩ keeps, keeps.armed.trans armed⟩

/-- The stock after a pulse aside: the net increment leaves it (R17, R19). -/
theorem State.asidePulse_stock (s : State) (h : Hose) :
    let t := s.asidePulse h
    (s.asideNet h = 0 → t.stock = s.stock)
    ∧ (0 < s.asideNet h →
      (t.stock.get (hoseComp h)).book = max (-549755813888) ((s.stock.get (hoseComp h)).book - s.asideNet h)
      ∧ (t.stock.get (hoseComp h)).dispensed =
          ((s.stock.get (hoseComp h)).dispensed + s.asideNet h) % 1099511627776)
    ∧ ∀ d, d ≠ hoseComp h → t.stock.get d = s.stock.get d := by
  intro t
  have sensed : (s.leakSensed h).stock = s.stock := by rw [State.leakSensed_frame]
  have debited : t.stock =
      ((s.leakSensed h).debitStock (hoseComp h) (s.asideNet h) (s.availableStock (hoseComp h))).stock :=
    (congrArg State.stock (s.asidePulse_frame h).1).trans (s.unattributedPulse_facts h).2.1
  rw [debited]
  rcases Nat.eq_zero_or_pos (s.asideNet h) with none | some
  · rw [none, State.debitStock_none, sensed]
    exact ⟨fun _ => rfl, fun some => absurd some (Nat.lt_irrefl 0), fun _ _ => rfl⟩
  · obtain ⟨book, dispensed, others⟩ := State.debitStock_figures (s := s.leakSensed h) (c := hoseComp h)
      (before := s.availableStock (hoseComp h)) some
    rw [sensed] at book dispensed others
    exact ⟨fun none => absurd none some.ne', fun _ => ⟨book, dispensed⟩, others⟩

/-! ### The edges -/

/-- The settings and figures that a pulse aside reads, as the edge finds them. -/
theorem State.edged_asideReads (s : State) (h : Hose) (line : MeterLine) (time : Nat) :
    (s.edged h line time).openedContext h = s.openedContext h
      ∧ (s.edged h line time).pulsedContext h = s.pulsedContext h
      ∧ (s.edged h line time).asideGross h = s.asideGross h ∧ (s.edged h line time).asideNet h = s.asideNet h
      ∧ (s.edged h line time).onTransactionRoute h = s.onTransactionRoute h := by
  obtain ⟨-, deviation, -, -, bound, -⟩ := (s.chan.get h).lineTakes_reads line true
  obtain ⟨-, -, -, unattributed⟩ := (s.chan.get h).lineTakes_marks line true
  have opened : (s.edged h line time).openedContext h = s.openedContext h := by
    unfold State.openedContext
    rw [State.edged_chan, unattributed]
    rfl
  have pulsed : (s.edged h line time).pulsedContext h = s.pulsedContext h := by
    unfold State.pulsedContext
    rw [opened, State.edged_kq, State.edged_chan, deviation]
  have route : (s.edged h line time).onTransactionRoute h = s.onTransactionRoute h := by
    unfold State.onTransactionRoute
    rw [State.edged_chan, bound]
    rfl
  unfold State.asideGross State.asideNet
  rw [opened, pulsed]
  exact ⟨rfl, rfl, rfl, rfl, route⟩

/-- Settles O47: no change, the falling edge, the SAVED supply, the phase error, the reverse and the forward pulses. -/
theorem otherEdges : Obligations.OtherEdges := by
  intro s h line time c now
  let u := s.edged h line time
  have chan : u.chan.get h = c.lineTakes line true := s.edged_chan h line time
  obtain ⟨txn, deviation, -, -, bound, debt⟩ := c.lineTakes_reads line true
  obtain ⟨errors, excess, ceiling, unattributed⟩ := c.lineTakes_marks line true
  refine ⟨fun high same => ?_, fun up => ?_, fun low saved => ?_, fun low normal => ⟨fun repeated => ?_,
    fun alternates backward => ⟨fun under => ?_, fun full reported => ?_, fun full unreported => ?_⟩,
    fun alternates forward => ⟨fun owed => ?_, fun free aside => ?_⟩⟩⟩
  · have run : exec (.pulseEdge h line high time) s = ({ s with now := now } : State).finish :=
      congrArg State.finish (if_pos same)
    exact ⟨_, run.trans (State.finish_eq _), rfl⟩
  · have run : exec (.pulseEdge h line false time) s =
        (({ s with now := now } : State).modChan h fun x => x.lineTakes line false).finish :=
      congrArg State.finish ((if_neg (by
        rw [show (({ s with now := now } : State).chan.get h).level line = true from up]; decide)).trans (if_neg (by decide)))
    exact ⟨_, run.trans (State.finish_eq _), rfl⟩
  · have run : exec (.pulseEdge h line true time) s = (({ s with now := now } : State).unmeteredEdge h line).finish :=
      congrArg State.finish ((if_neg (by
        rw [show (({ s with now := now } : State).chan.get h).level line = false from low]; decide)).trans ((if_pos rfl).trans
          (if_neg (by simp [State.isNormal, saved]))))
    exact ⟨_, run.trans (State.finish_eq _), rfl⟩
  · have run := exec_rising time normal low
    rw [if_pos repeated] at run
    let v : State :=
      { s with
        now := now
        chan := s.chan.set h { c.lineTakes line true with phaseErrors := min 9 (c.phaseErrors + 1) } }
    have erred : u.phaseError h = if c.phaseErrors = 8 then v.meterReport h .pulsePhase else v := by
      unfold State.phaseError
      rw [chan, errors]
      simp only [u, State.edged_modChan]
      rfl
    rw [show (s.edged h line time).phaseError h = _ from erred] at run
    by_cases ninth : c.phaseErrors = 8
    · rw [if_pos ninth] at run
      obtain ⟨frame, pending, flag, closes⟩ := v.meterReport_facts h .pulsePhase normal
      generalize v.meterReport h .pulsePhase = w at *
      refine ⟨_, run.trans (State.finish_eq _), ?_, fun other => absurd ninth other, fun _ => ⟨pending, flag, closes, ?_⟩⟩
      · rw [frame]
      · rw [frame]
    · rw [if_neg ninth] at run
      exact ⟨_, run.trans (State.finish_eq _), rfl, fun _ => rfl, fun eight => absurd eight ninth⟩
  · have run := exec_rising time normal low
    rw [if_neg alternates, if_neg (by simp [show (s.chan.get h).forward line = false from backward])] at run
    have reversed : u.reversePulse h =
        { s with now := now, chan := s.chan.set h { c.lineTakes line true with debt := c.debt + 1 } } := by
      unfold State.reversePulse
      simp only
      rw [s.edged_kq, chan, debt, if_pos under, s.edged_modChan, debt]
    rw [show (s.edged h line time).reversePulse h = _ from reversed] at run
    exact ⟨_, run.trans (State.finish_eq _), rfl⟩
  · have run := exec_rising time normal low
    rw [if_neg alternates, if_neg (by simp [show (s.chan.get h).forward line = false from backward])] at run
    have reversed : u.reversePulse h = u := by
      unfold State.reversePulse
      simp only
      rw [s.edged_kq, chan, debt, if_neg (not_lt.mpr full), excess, if_pos reported]
    rw [show (s.edged h line time).reversePulse h = _ from reversed] at run
    exact ⟨_, run.trans (State.finish_eq _), rfl⟩
  · have run := exec_rising time normal low
    rw [if_neg alternates, if_neg (by simp [show (s.chan.get h).forward line = false from backward])] at run
    let v : State :=
      { s with now := now, chan := s.chan.set h { c.lineTakes line true with excessReported := true } }
    have reversed : u.reversePulse h = v.meterReport h .reverseExcess := by
      unfold State.reversePulse
      simp only
      rw [s.edged_kq, chan, debt, if_neg (not_lt.mpr full), excess, if_neg (by simp [unreported]), s.edged_modChan]
    rw [show (s.edged h line time).reversePulse h = _ from reversed] at run
    obtain ⟨frame, pending, flag, closes⟩ := v.meterReport_facts h .reverseExcess normal
    generalize v.meterReport h .reverseExcess = w at *
    refine ⟨_, run.trans (State.finish_eq _), ?_, pending, flag, closes⟩
    rw [frame]
  · have run := exec_rising time normal low
    rw [if_neg alternates, if_pos forward] at run
    have used : u.forwardPulse h =
        { s with
          now := now
          chan := s.chan.set h { c.lineTakes line true with debt := c.debt - 1, excessReported := false } } := by
      unfold State.forwardPulse
      rw [chan, debt, if_neg owed.ne', s.edged_modChan, debt]
    rw [show (s.edged h line time).forwardPulse h = _ from used] at run
    exact ⟨_, run.trans (State.finish_eq _), rfl⟩
  · have run := exec_rising time normal low
    rw [if_neg alternates, if_pos forward] at run
    have counted : u.forwardPulse h = u.asidePulse h := by
      unfold State.forwardPulse
      rw [if_pos (by rw [chan, debt]; exact free)]
      refine State.countedPulse_aside fun route => ?_
      rw [(s.edged_asideReads h line time).2.2.2.2] at route
      obtain ⟨⟨on, active⟩, unpaused⟩ : (c.bound = true ∧ (s.slotState h).authorised = true) ∧ s.slotState h ≠ .paused := by
        simpa [State.onTransactionRoute] using route
      rw [chan, txn]
      simp only [atCeiling, Bool.or_eq_true, decide_eq_true_iff]
      rcases aside with off | off | off | high
      · exact absurd (on.symm.trans off) nofun
      · exact absurd (active.symm.trans off) nofun
      · exact absurd off unpaused
      · exact high
    rw [show (s.edged h line time).forwardPulse h = _ from counted] at run
    intro diverted kq opened k w net n k0 a x book cuts watched window full
    obtain ⟨context, pulsed, gross, netGain, route⟩ := s.edged_asideReads h line time
    have gross' : u.asideGross h = k := gross.trans (Nat.add_sub_cancel_left _ _)
    have netGain' : u.asideNet h = n := netGain
    have divertedAt : u.onTransactionRoute h = diverted := route
    obtain ⟨flat, -, -, -⟩ := u.asidePulse_frame h
    obtain ⟨gained, leaks, quiet, notes, rests⟩ := u.asidePulse_leak h
    obtain ⟨cutCloses, ceilingCloses, stays⟩ := u.asidePulse_slot h
    obtain ⟨still, figures, others⟩ := u.asidePulse_stock h
    have restocked := restockFollows_congr (s.edged_available h line time _) rfl rfl rfl rfl (u.asidePulse_restock h)
    have channel : u.chan.set h (u.asideChannel h) = s.chan.set h
        { c.lineTakes line true with
          unattributed := some ⟨opened.alpha, (opened.remainder + 1000) % kq, opened.gross + k, w, net⟩
          grossTotalizer := (c.grossTotalizer + k) % 100000000000
          netTotalizer := (c.netTotalizer + n) % 100000000000
          ceilingReported := c.ceilingReported || diverted } := by
      unfold State.asideChannel
      rw [gross', netGain', divertedAt, show u.pulsedContext h = _ from pulsed, chan]
      refine (PerHose.set_set s.chan h _ _).trans ?_
      cases line <;> rfl
    have ceils : u.ceilingCloses h ↔
        diverted = true ∧ (s.slotState h).delivers = true ∧ c.ceilingReported = false := by
      unfold State.ceilingCloses
      rw [divertedAt, chan, ceiling]
      rfl
    rw [ceils] at ceilingCloses stays
    rw [netGain'] at flat gained cutCloses ceilingCloses stays still figures
    rw [gross'] at gained
    have joined (both : watched ∧ full) : exceptionFollows h .leak s (u.asidePulse h) ∧
        ((u.asidePulse h).hoseCtl.get h).leakArmed = false := by
      obtain ⟨follows, disarmed⟩ := leaks both
      exact ⟨exceptionFollows_congr (s := s) (u := u) (by rw [chan]; exact bound) rfl rfl follows, disarmed⟩
    have sensed : ((u.leakSensed h).hoseCtl.get h).leakWindow = if watched then window else k0.leakWindow := by
      by_cases on : watched
      · exact (notes on).trans (if_pos on).symm
      · exact (rests on).trans (if_neg on).symm
    rw [sensed] at stays
    clear leaks
    generalize u.asidePulse h = t at *
    have closedWindow (slot : ∃ cause, t.slots.get h = { s.slots.get h with state := .closing, endCause := cause })
        (from_ : (s.slotState h).running = true) (emptied : (t.hoseCtl.get h).leakWindow = []) :
        (t.hoseCtl.get h).leakWindow =
          if s.slotState h ≠ .closing ∧ t.slotState h = .closing then []
          else if watched then window else k0.leakWindow := by
      obtain ⟨cause, slot⟩ := slot
      have open_ : s.slotState h ≠ .closing := fun closing => by rw [closing] at from_; exact Bool.noConfusion from_
      rw [if_pos ⟨open_, by rw [State.slotState, slot]⟩]
      exact emptied
    have windowEnds : (t.hoseCtl.get h).leakWindow =
        if s.slotState h ≠ .closing ∧ t.slotState h = .closing then []
        else if watched then window else k0.leakWindow := by
      by_cases cut : (s.slotState h).running = true ∧ cuts
      · obtain ⟨slot, emptied⟩ := cutCloses cut
        exact closedWindow ⟨_, slot⟩ cut.1 emptied
      · by_cases closes : diverted = true ∧ (s.slotState h).delivers = true ∧ c.ceilingReported = false
        · obtain ⟨slot, emptied⟩ := ceilingCloses cut closes
          exact closedWindow ⟨_, slot⟩ (SlotState.running_of_delivers closes.2.1) emptied
        · obtain ⟨slot, window⟩ := stays cut closes
          have same : t.slotState h = s.slotState h := congrArg Slot.state slot
          exact window.trans (if_neg fun both => both.1 (same.symm.trans both.2)).symm
    refine ⟨_, run.trans (State.finish_eq _), ?_, ?_, fun none => ?_, fun some => ?_, ?_, fun d other => ?_, ?_, ?_,
      fun neither => ?_, ?_, fun cut runs => ?_, fun spared div first delivers => ?_, fun spared open_ => ?_,
      fun stopped => ?_, ?_⟩
    · exact (congrArg State.chan flat).trans channel
    · exact gained
    · exact still none
    · exact figures some
    · exact restocked
    · exact others d other
    · exact congrArg State.receipts flat
    · exact fun both => joined both
    · exact quiet neither
    · exact windowEnds
    · exact (cutCloses ⟨runs, cut⟩).1
    · exact (ceilingCloses (fun both => spared both.2) ⟨div, delivers, first⟩).1
    · refine (stays (fun both => spared both.2) fun both => ?_).1
      rcases open_ with off | off | off
      · exact absurd (both.1.symm.trans off) nofun
      · exact absurd (both.2.2.symm.trans off) nofun
      · exact absurd (both.2.1.symm.trans off) nofun
    · refine (stays (fun both => ?_) fun both => ?_).1
      · exact absurd (both.1.symm.trans stopped) nofun
      · exact absurd ((SlotState.running_of_delivers both.2.1).symm.trans stopped) nofun
    · rw [flat]; rfl

end Sys2Proof.Machine
end

section
/-! The calibration switch, the entry to SAVED, the ride-through and the power-on (R22, R23, R175, R187 to R192). -/

namespace Sys2Proof.Machine

open Sys2Proof

variable {s t u w : State} {p : Port} {h k : Hose} {c d : Comp}

/-! ### Steps that report events and append records -/

/-- Flags are only added, the supply stands and the journal only grows; in NORMAL the ports' masks, buffers and held
events stand. -/
structure Reports (s t : State) : Prop where
  flags : FlagsStand s t
  supply : t.supply = s.supply
  ports : s.supply = .normal → ∀ p, (t.ports.get p).mask = (s.ports.get p).mask
    ∧ (t.ports.get p).buffer = (s.ports.get p).buffer ∧ (t.ports.get p).held = (s.ports.get p).held
  grows : ∃ more, t.journal.records = s.journal.records ++ more

theorem Reports.of_same (supply : t.supply = s.supply) (ports : t.ports = s.ports)
    (records : t.journal.records = s.journal.records) : Reports s t :=
  ⟨FlagsStand.of_ports ports, supply, fun _ p => by rw [ports]; exact ⟨rfl, rfl, rfl⟩,
    [], by rw [records, List.append_nil]⟩

theorem Reports.refl (s : State) : Reports s s := Reports.of_same rfl rfl rfl

theorem Reports.trans (f : Reports s t) (g : Reports t u) : Reports s u := by
  obtain ⟨more, grows⟩ := f.grows
  obtain ⟨more', grows'⟩ := g.grows
  refine ⟨f.flags.trans g.flags, g.supply.trans f.supply, fun normal p => ?_, more ++ more', ?_⟩
  · obtain ⟨mask, buffer, held⟩ := f.ports normal p
    obtain ⟨mask', buffer', held'⟩ := g.ports (f.supply.trans normal) p
    exact ⟨mask'.trans mask, buffer'.trans buffer, held'.trans held⟩
  · rw [grows', grows, List.append_assoc]

theorem Reports.raise (s : State) (e : Event) : Reports s (s.raise e) := by
  refine ⟨FlagsStand.raise s e, rfl, fun normal p => ⟨State.raise_mask e p, State.raise_buffer e p, ?_⟩, [], ?_⟩
  · rw [State.raise_port]
    simp [PortState.raise, State.isNormal, normal]
  · exact (List.append_nil _).symm

theorem Reports.raiseIf (s : State) (e : Event) (q : Prop) [Decidable q] : Reports s (if q then s.raise e else s) := by
  split
  · exact Reports.raise s e
  · exact Reports.refl s

/-- The ports after a raise, whatever else a step writes. -/
theorem Reports.of_raise {e : Event} (supply : t.supply = s.supply) (ports : t.ports = (s.raise e).ports)
    (records : t.journal.records = s.journal.records) : Reports s t :=
  (Reports.raise s e).trans (Reports.of_same supply ports records)

theorem Reports.toIdle (s : State) (h : Hose) : Reports s (s.toIdle h) := by
  have settles (v : State) : Reports v (v.setSlotState h .idle) := by
    refine Reports.of_raise (e := .hoseState h) ?_ ?_ ?_ <;> rw [State.setSlotState_eq]
  unfold State.toIdle
  refine Reports.trans ?_ (settles _)
  exact Reports.of_same rfl rfl rfl

theorem Reports.convertSlot (s : State) (h : Hose) (body : RecordBody) : Reports s (s.convertSlot (.hose h) body) := by
  cases holds : s.journal.register.get (.hose h) with
  | none =>
    have same : s.convertSlot (.hose h) body = s := by
      unfold State.convertSlot
      rw [holds]
    rw [same]
    exact Reports.refl s
  | some mark =>
    rw [State.convertSlot_eq body holds]
    exact (Reports.raise s .journalNew).trans ⟨FlagsStand.refl _, rfl, fun _ _ => ⟨rfl, rfl, rfl⟩, _, rfl⟩

theorem Reports.checkVariance (s : State) (c : Comp) : Reports s (s.checkVariance c) := by
  unfold State.checkVariance
  split
  · refine Reports.trans ?_ (Reports.raiseIf _ .stockVariance _)
    exact Reports.of_same rfl rfl rfl
  · exact Reports.refl s

theorem Reports.startJournal (s : State) : Reports s s.startJournal := by
  unfold State.startJournal
  refine Reports.trans ?_ (Reports.raiseIf _ .journalHigh _)
  exact Reports.of_same rfl rfl rfl

theorem Reports.abandon (s : State) (h : Hose) : Reports s (s.abandon h) := by
  unfold State.abandon
  split
  · rw [State.releaseEntry_frame]
    refine Reports.trans ?_ (Reports.toIdle _ h)
    exact Reports.of_same rfl rfl rfl
  · exact Reports.refl s

/-! ### The closure of saved transactions (R189, R190) -/

/-- A completed slot, before its return to IDLE, whether or not it holds a place in the register. -/
def State.completing (s : State) (h : Hose) (x : Completion) : State :=
  { s.convertSlot (.hose h) (.dispense (s.composeDispense h x)) with
    roster := s.roster.completed (s.slots.get h).entry x }

theorem State.convertSlot_frame (s : State) (h : Hose) (body : RecordBody) :
    s.convertSlot (.hose h) body =
      { s with
        journal := (s.convertSlot (.hose h) body).journal, ports := (s.convertSlot (.hose h) body).ports } := by
  cases holds : s.journal.register.get (.hose h) with
  | none =>
    unfold State.convertSlot
    rw [holds]
  | some mark => rw [State.convertSlot_eq body holds]

theorem State.complete_steps (s : State) (h : Hose) (x : Completion) :
    s.complete h x = (s.completing h x).toIdle h := by
  unfold State.complete State.completing Roster.completed
  rw [State.convertSlot_frame]
  cases (s.slots.get h).entry with
  | none => rfl
  | some v => rfl

theorem State.completing_frame (s : State) (h : Hose) (x : Completion) :
    s.completing h x =
      { s with
        journal := (s.completing h x).journal, roster := s.roster.completed (s.slots.get h).entry x
        ports := (s.completing h x).ports } := by
  unfold State.completing
  rw [State.convertSlot_frame]

theorem State.complete_frame (s : State) (h : Hose) (x : Completion) :
    s.complete h x =
      { s with
        slots := s.slots.set h Slot.fresh, nozzleReader := (s.complete h x).nozzleReader
        pendingTag := (s.complete h x).pendingTag, tracking := (s.complete h x).tracking
        chan := (s.complete h x).chan, journal := (s.complete h x).journal, roster := (s.complete h x).roster
        pumps := (s.complete h x).pumps, logoffTimer := (s.complete h x).logoffTimer
        ports := (s.complete h x).ports } := by
  rw [State.complete_steps, State.toIdle_eq, State.completing_frame]

theorem Reports.complete (s : State) (h : Hose) (x : Completion) : Reports s (s.complete h x) := by
  rw [State.complete_steps]
  refine Reports.trans ?_ (Reports.toIdle _ h)
  exact (Reports.convertSlot s h _).trans (Reports.of_same rfl rfl rfl)

theorem sameOtherHoses.complete (s : State) (h : Hose) (x : Completion) : sameOtherHoses h s (s.complete h x) := by
  rw [State.complete_steps]
  refine sameOtherHoses.trans ?_ (sameOtherHoses.toIdle _ h)
  rw [State.completing_frame]
  exact fun _ _ => ⟨rfl, rfl, rfl, rfl, rfl, rfl⟩

/-- Another holder's place stands at a completion. -/
theorem State.complete_register (s : State) (h : Hose) (x : Completion) (other : k ≠ h) :
    (s.complete h x).journal.register.hoses.get k = s.journal.register.hoses.get k := by
  have journal : (s.complete h x).journal = (s.convertSlot (.hose h) (.dispense (s.composeDispense h x))).journal := by
    rw [State.complete_steps, State.toIdle_eq]
    rfl
  rw [journal]
  cases holds : s.journal.register.get (.hose h) with
  | none =>
    unfold State.convertSlot
    rw [holds]
  | some mark =>
    rw [State.convertSlot_eq _ holds]
    simp [Register.put, other]

/-- The completed transaction leaves the Save Area. -/
def State.forgetSaved (s : State) (h : Hose) : State :=
  { s with save := { s.save with slots := s.save.slots.set h none } }

theorem State.closeSaved_acts {v : SavedSlot} {n : Option Nat} (saved : s.save.slots.get h = some v)
    (active : v.slot.state.authorised = true) : s.closeSaved h n = (s.complete h (v.completion n)).forgetSaved h := by
  unfold State.closeSaved
  rw [saved]
  exact if_pos active

/-- Either a saved transaction is completed, or nothing happens. -/
theorem State.closeSaved_cases (s : State) (h : Hose) (n : Option Nat) :
    s.closeSaved h n = s ∨ ∃ x, s.closeSaved h n = (s.complete h x).forgetSaved h := by
  cases saved : s.save.slots.get h with
  | none =>
    refine .inl ?_
    unfold State.closeSaved
    rw [saved]
  | some v =>
    cases active : v.slot.state.authorised with
    | true => exact .inr ⟨_, State.closeSaved_acts saved active⟩
    | false =>
      refine .inl ?_
      unfold State.closeSaved
      rw [saved]
      exact if_neg (by simp [active])

theorem State.closeSaved_frame (s : State) (h : Hose) (n : Option Nat) :
    s.closeSaved h n =
      { s with
        slots := (s.closeSaved h n).slots, nozzleReader := (s.closeSaved h n).nozzleReader
        pendingTag := (s.closeSaved h n).pendingTag, tracking := (s.closeSaved h n).tracking
        chan := (s.closeSaved h n).chan, journal := (s.closeSaved h n).journal, roster := (s.closeSaved h n).roster
        pumps := (s.closeSaved h n).pumps, logoffTimer := (s.closeSaved h n).logoffTimer
        ports := (s.closeSaved h n).ports
        save := { s.save with slots := (s.closeSaved h n).save.slots } } := by
  rcases s.closeSaved_cases h n with same | ⟨x, acts⟩
  · rw [same]
  · rw [acts, State.forgetSaved, State.complete_frame]

theorem Reports.closeSaved (s : State) (h : Hose) (n : Option Nat) : Reports s (s.closeSaved h n) := by
  rcases s.closeSaved_cases h n with same | ⟨x, acts⟩
  · rw [same]
    exact Reports.refl s
  · rw [acts]
    exact (Reports.complete s h x).trans (Reports.of_same rfl rfl rfl)

/-- The slot is IDLE after its transaction's closure, or stands. -/
theorem State.closeSaved_slot (s : State) (h : Hose) (n : Option Nat) :
    (s.closeSaved h n).slots.get h = Slot.fresh ∨ (s.closeSaved h n).slots.get h = s.slots.get h := by
  rcases s.closeSaved_cases h n with same | ⟨x, acts⟩
  · exact .inr (by rw [same])
  · refine .inl ?_
    rw [acts, State.forgetSaved, State.complete_frame]
    exact PerHose.get_set_same _ _ _

/-! ### A hose at its turn in the closure -/

/-- Everything kept per hose stands at `h`, its saved slot and its place in the register too; the journal grows. -/
def turnKept (h : Hose) (s t : State) : Prop :=
  sameHose h s t ∧ t.save.slots.get h = s.save.slots.get h
    ∧ t.journal.register.hoses.get h = s.journal.register.hoses.get h ∧ Reports s t

theorem turnKept.refl (h : Hose) (s : State) : turnKept h s s := ⟨sameHose.refl h s, rfl, rfl, Reports.refl s⟩

theorem turnKept.trans (f : turnKept h s t) (g : turnKept h t u) : turnKept h s u := by
  obtain ⟨same, saved, holds, reports⟩ := f
  obtain ⟨same', saved', holds', reports'⟩ := g
  exact ⟨same.trans same', saved'.trans saved, holds'.trans holds, reports.trans reports'⟩

theorem turnKept.closeSaved (s : State) (h : Hose) (n : Option Nat) (other : k ≠ h) :
    turnKept k s (s.closeSaved h n) := by
  have reports := Reports.closeSaved s h n
  rcases s.closeSaved_cases h n with same | ⟨x, acts⟩
  · rw [same]
    exact turnKept.refl k s
  · rw [acts] at reports ⊢
    refine ⟨sameOtherHoses.complete s h x k other, ?_, s.complete_register h x other, reports⟩
    unfold State.forgetSaved
    rw [State.complete_frame]
    exact PerHose.get_set_ne _ _ other

theorem State.closeAll_turn (s : State) (n : PerHose (Option Nat)) (h : Hose) :
    ∃ u, turnKept h s u ∧ turnKept h (u.closeSaved h (n.get h)) (s.closeAll n) := by
  have first (k : Hose) (other : k ≠ .h1) : turnKept k s (s.closeSaved .h1 n.h1) := turnKept.closeSaved _ _ _ other
  have second (k : Hose) (other : k ≠ .h2) :
      turnKept k (s.closeSaved .h1 n.h1) ((s.closeSaved .h1 n.h1).closeSaved .h2 n.h2) := turnKept.closeSaved _ _ _ other
  have third (k : Hose) (other : k ≠ .h3) :
      turnKept k ((s.closeSaved .h1 n.h1).closeSaved .h2 n.h2) (s.closeAll n) := turnKept.closeSaved _ _ _ other
  cases h with
  | h1 => exact ⟨s, turnKept.refl _ _, (second .h1 (by decide)).trans (third .h1 (by decide))⟩
  | h2 => exact ⟨_, first .h2 (by decide), third .h2 (by decide)⟩
  | h3 => exact ⟨_, (first .h3 (by decide)).trans (second .h3 (by decide)), turnKept.refl _ _⟩

theorem State.closeAll_frame (s : State) (n : PerHose (Option Nat)) :
    s.closeAll n =
      { s with
        slots := (s.closeAll n).slots, nozzleReader := (s.closeAll n).nozzleReader
        pendingTag := (s.closeAll n).pendingTag, tracking := (s.closeAll n).tracking, chan := (s.closeAll n).chan
        journal := (s.closeAll n).journal, roster := (s.closeAll n).roster, pumps := (s.closeAll n).pumps
        logoffTimer := (s.closeAll n).logoffTimer, ports := (s.closeAll n).ports
        save := { s.save with slots := (s.closeAll n).save.slots } } := by
  unfold State.closeAll
  rw [State.closeSaved_frame (State.closeSaved _ .h2 _) .h3, State.closeSaved_frame (State.closeSaved _ .h1 _) .h2,
    State.closeSaved_frame s .h1]

theorem Reports.closeAll (s : State) (n : PerHose (Option Nat)) : Reports s (s.closeAll n) :=
  ((Reports.closeSaved s .h1 _).trans (Reports.closeSaved _ .h2 _)).trans (Reports.closeSaved _ .h3 _)

theorem State.closeAll_slot (s : State) (n : PerHose (Option Nat)) (h : Hose) :
    (s.closeAll n).slots.get h = Slot.fresh ∨ (s.closeAll n).slots.get h = s.slots.get h := by
  obtain ⟨u, ⟨⟨before, -⟩, -⟩, ⟨⟨after, -⟩, -⟩⟩ := s.closeAll_turn n h
  rw [after, ← before]
  exact u.closeSaved_slot h _

/-- A saved transaction's slot is IDLE after the closure. -/
theorem State.closeAll_closed {v : SavedSlot} (n : PerHose (Option Nat)) (saved : s.save.slots.get h = some v)
    (active : v.slot.state.authorised = true) : (s.closeAll n).slots.get h = Slot.fresh := by
  obtain ⟨u, ⟨-, kept, -⟩, ⟨⟨after, -⟩, -⟩⟩ := s.closeAll_turn n h
  rw [after, State.closeSaved_acts (kept.trans saved) active, State.forgetSaved, State.complete_frame]
  exact PerHose.get_set_same _ _ _

/-- The records after those of `s` hold the DISPENSE record of a saved transaction (R190). -/
def Recorded (h : Hose) (v : SavedSlot) (n : Option Nat) (s t : State) : Prop :=
  ∃ rec ∈ t.journal.records.drop s.journal.records.length,
    ∃ z : State, rec.body = .dispense (z.composeDispense h (v.completion n))

theorem Recorded.later {v : SavedSlot} {n : Option Nat} (f : Recorded h v n s t) (before : Reports s t)
    (after : Reports t u) : Recorded h v n s u := by
  obtain ⟨rec, joined, body⟩ := f
  obtain ⟨more, records⟩ := before.grows
  obtain ⟨further, records'⟩ := after.grows
  refine ⟨rec, ?_, body⟩
  rw [records', List.drop_append_of_le_length (by rw [records]; simp)]
  exact List.mem_append_left _ joined

/-- The closure of a saved transaction that holds a place in the register writes its record (R159, R190). -/
theorem State.closeAll_records {v : SavedSlot} {mark : Bool} (n : PerHose (Option Nat))
    (saved : s.save.slots.get h = some v) (active : v.slot.state.authorised = true)
    (holds : s.journal.register.hoses.get h = some mark) : Recorded h v (n.get h) s (s.closeAll n) := by
  obtain ⟨u, ⟨-, kept, place, before⟩, ⟨-, -, -, after⟩⟩ := s.closeAll_turn n h
  have acts := State.closeSaved_acts (n := n.get h) (kept.trans saved) active
  refine Recorded.later ?_ (before.trans (Reports.closeSaved u h _)) after
  obtain ⟨more, records⟩ := before.grows
  let x := v.completion (n.get h)
  let written : JournalRecord :=
    ⟨u.journal.next, (x.flags u.clock.valid).clockInvalid || !u.clock.valid || mark, .dispense (u.composeDispense h x)⟩
  refine ⟨written, ?_, u, rfl⟩
  rw [acts, State.complete_eq _ (place.trans holds), State.forgetSaved, State.toIdle_eq]
  simp only [State.recorded]
  rw [records, List.append_assoc, List.drop_left]
  exact List.mem_append_right _ (List.mem_singleton_self _)

/-! ### The slots before READY (R189) -/

theorem State.abandon_slot (s : State) (h : Hose) :
    (s.abandon h).slots.get h = if (s.slots.get h).state.waiting then Slot.fresh else s.slots.get h := by
  cases waits : (s.slotState h).waiting with
  | true =>
    rw [State.abandon_eq waits, if_pos (by exact waits)]
    exact PerHose.get_set_same _ _ _
  | false => rw [State.abandon_rests waits, if_neg (by exact Bool.eq_false_iff.mp waits)]

theorem State.abandonSaved_frame (s : State) (h : Hose) :
    s.abandonSaved h =
      { s with
        slots := (s.abandon h).slots, nozzleReader := (s.abandon h).nozzleReader
        pendingTag := (s.abandon h).pendingTag, tracking := (s.abandon h).tracking, chan := (s.abandon h).chan
        roster := (s.abandon h).roster, pumps := (s.abandon h).pumps, logoffTimer := (s.abandon h).logoffTimer
        ports := (s.abandon h).ports, save := { s.save with slots := s.save.slots.set h none } } := by
  unfold State.abandonSaved
  simp only
  rw [State.abandon_frame]

theorem State.abandonAll_frame (s : State) :
    s.abandonAll =
      { s with
        slots := s.abandonAll.slots, nozzleReader := s.abandonAll.nozzleReader, pendingTag := s.abandonAll.pendingTag
        tracking := s.abandonAll.tracking, chan := s.abandonAll.chan, roster := s.abandonAll.roster
        pumps := s.abandonAll.pumps, logoffTimer := s.abandonAll.logoffTimer, ports := s.abandonAll.ports
        save := { s.save with slots := s.abandonAll.save.slots } } := by
  unfold State.abandonAll
  rw [State.abandonSaved_frame (State.abandonSaved _ .h2) .h3, State.abandonSaved_frame (State.abandonSaved _ .h1) .h2,
    State.abandonSaved_frame s .h1]

theorem Reports.abandonSaved (s : State) (h : Hose) : Reports s (s.abandonSaved h) :=
  (Reports.abandon s h).trans (Reports.of_same rfl rfl rfl)

theorem Reports.abandonAll (s : State) : Reports s s.abandonAll :=
  ((Reports.abandonSaved s .h1).trans (Reports.abandonSaved _ .h2)).trans (Reports.abandonSaved _ .h3)

theorem State.abandonAll_slot (s : State) (h : Hose) :
    s.abandonAll.slots.get h = if (s.slots.get h).state.waiting then Slot.fresh else s.slots.get h := by
  obtain ⟨u, -, ⟨before, -⟩, ⟨after, -⟩⟩ := each_hose_turn (s := s) (f := fun t k => t.abandonSaved k)
    (P := fun _ => True) (fun t k => sameOtherHoses.abandon t k) trivial (fun _ _ _ => trivial) h
  have turn : (u.abandonSaved h).slots.get h = (u.abandon h).slots.get h := rfl
  exact after.trans (turn.trans (by rw [State.abandon_slot, before]))

/-! ### The saved receipts (R191) -/

theorem State.continueReceipt_eq (s : State) (c : Comp) (r : Receipt) :
    s.continueReceipt c r =
      { s with
        receipts := s.receipts.set c
          (r.continued (s.receipts.get c) s.now s.clock.counter ((s.gauge.get c).state == .valid))
        ports := (s.continueReceipt c r).ports } := by
  have soon (ms : Nat) : s.qualificationNow c ms =
      if ((s.gauge.get c).state == .valid) = true then some (s.now + ms) else none := by
    simp [State.qualificationNow, State.timer]
  unfold State.continueReceipt Receipt.continued
  cases state : r.state with
  | closed => simp
  | opening =>
    simp only [← soon]
    simp only [State.modReceipt, State.timer, PerComp.get_set_same, PerComp.set_set]
    rw [← state]
    rfl
  | filling =>
    simp only [← soon]
    rw [State.modReceipt_endFill]
    rfl
  | settling =>
    simp only [← soon]
    simp [State.modReceipt, State.timer, State.enterSettling]
    rfl

/-- The receipt that the closure leaves at a compartment. -/
def State.continuedReceipt (s : State) (c : Comp) : Receipt :=
  match s.save.receipts.get c with
  | none => s.receipts.get c
  | some r => r.continued (s.receipts.get c) s.now s.clock.counter ((s.gauge.get c).state == .valid)

theorem State.continueSaved_eq (s : State) (c : Comp) :
    s.continueSaved c =
      { s with
        receipts := s.receipts.set c (s.continuedReceipt c), ports := (s.continueSaved c).ports
        save := { s.save with receipts := s.save.receipts.set c none } } := by
  unfold State.continueSaved State.continuedReceipt
  cases saved : s.save.receipts.get c with
  | none =>
    have left : s.save.receipts.set c none = s.save.receipts := by rw [← saved, PerComp.set_get]
    simp only [PerComp.set_get]
    rw [left]
  | some r =>
    simp only
    rw [State.continueReceipt_eq]

theorem State.continueAll_eq (s : State) :
    s.continueAll =
      { s with
        receipts := s.continueAll.receipts, ports := s.continueAll.ports
        save := { s.save with receipts := s.continueAll.save.receipts } } := by
  unfold State.continueAll
  rw [State.continueSaved_eq (s.continueSaved .a) .b, State.continueSaved_eq s .a]

theorem State.continueAll_receipt (s : State) (c : Comp) : s.continueAll.receipts.get c = s.continuedReceipt c := by
  unfold State.continueAll
  rw [State.continueSaved_eq (s.continueSaved .a) .b, State.continueSaved_eq s .a]
  cases c <;> simp [State.continuedReceipt]

theorem Reports.continueSaved (s : State) (c : Comp) : Reports s (s.continueSaved c) := by
  unfold State.continueSaved
  split
  · exact Reports.refl s
  · next r saved =>
    refine Reports.trans ?_ (Reports.of_same rfl rfl rfl) (t := s.continueReceipt c r)
    unfold State.continueReceipt
    simp only
    split
    · exact Reports.refl s
    · exact Reports.of_raise (e := .receiptState c) rfl rfl rfl
    · rw [State.modReceipt_endFill]
      exact Reports.of_raise (e := .receiptState c) rfl rfl rfl
    · exact Reports.of_raise (e := .receiptState c) rfl rfl rfl

theorem Reports.continueAll (s : State) : Reports s s.continueAll :=
  (Reports.continueSaved s .a).trans (Reports.continueSaved _ .b)

/-! ### The blocks resumed (R23, R42, R49, R69) -/

theorem State.resumeHose_eq (s : State) (h : Hose) :
    s.resumeHose h =
      { s with
        chan := s.chan.set h { s.chan.get h with lastChanged := none }
        hoseCtl := s.hoseCtl.set h { s.hoseCtl.get h with liftArmed := s.switches.nozzleIn.get h } } := rfl

/-- The decoders and the lifts at the return to NORMAL. -/
def State.hosesResumed (s : State) : State := ((s.resumeHose .h1).resumeHose .h2).resumeHose .h3

theorem State.hosesResumed_frame (s : State) :
    s.hosesResumed = { s with chan := s.hosesResumed.chan, hoseCtl := s.hosesResumed.hoseCtl } := by
  unfold State.hosesResumed
  rw [State.resumeHose_eq (State.resumeHose _ .h2) .h3, State.resumeHose_eq (State.resumeHose _ .h1) .h2,
    State.resumeHose_eq s .h1]

theorem State.hosesResumed_hose (s : State) (h : Hose) :
    (s.hosesResumed.chan.get h).lastChanged = none
      ∧ (s.hosesResumed.hoseCtl.get h).liftArmed = s.switches.nozzleIn.get h := by
  cases h <;> exact ⟨rfl, rfl⟩

/-- The blocks resumed, before the variance checks. -/
def State.resuming (s : State) : State :=
  ({ s.hosesResumed with
    pumps := PerComp.all PumpControl.fresh, save := { s.hosesResumed.save with register := Register.empty } } :
    State).startQualifying .pr

theorem State.resuming_eq (s : State) :
    s.resuming =
      { s with
        chan := s.hosesResumed.chan, hoseCtl := s.hosesResumed.hoseCtl, pumps := PerComp.all PumpControl.fresh
        save := { s.save with register := Register.empty }
        panelReader :=
          { s.panelReader.dropTag with
            link := .qualifying, stableTimer := some (s.now + 250), qualifyLimit := some (s.now + 1000)
            retryTimer := none, pollTimer := none } } := by
  have frame := s.hosesResumed_frame
  unfold State.resuming
  generalize s.hosesResumed = t at *
  rw [frame]
  rfl

theorem State.resumeAll_varied (s : State) : s.resumeAll = s.resuming.checkVariances := rfl

theorem State.resumeAll_eq (s : State) :
    s.resumeAll =
      { s with
        chan := s.hosesResumed.chan, hoseCtl := s.hosesResumed.hoseCtl, pumps := PerComp.all PumpControl.fresh
        save := { s.save with register := Register.empty }
        panelReader :=
          { s.panelReader.dropTag with
            link := .qualifying, stableTimer := some (s.now + 250), qualifyLimit := some (s.now + 1000)
            retryTimer := none, pollTimer := none }
        gauge := s.resumeAll.gauge, ports := s.resumeAll.ports } := by
  have frame := s.resuming.checkVariances_frame
  rw [← State.resumeAll_varied] at frame
  generalize s.resumeAll = t at *
  rw [frame, State.resuming_eq]

theorem Reports.resumeAll (s : State) : Reports s s.resumeAll := by
  have before : Reports s s.resuming := by
    rw [State.resuming_eq]
    exact Reports.of_same rfl rfl rfl
  rw [State.resumeAll_varied]
  exact before.trans ((Reports.checkVariance s.resuming .a).trans (Reports.checkVariance _ .b))

/-! ### The ride-through (R189) -/

/-- The unmetered pulses that the ride-through's records carry (R190). -/
def State.unmeteredAll (s : State) : PerHose (Option Nat) := ⟨s.unmeteredOf .h1, s.unmeteredOf .h2, s.unmeteredOf .h3⟩

theorem State.unmeteredAll_get (s : State) (h : Hose) : s.unmeteredAll.get h = some (s.chan.get h).unmetered := by
  cases h <;> rfl

/-- The state after the closure, its blocks not yet resumed. -/
def State.closed (s : State) : State := (s.restored.closeAll s.restored.unmeteredAll).abandonAll.continueAll

theorem State.returnToNormal_closed (s : State) : s.returnToNormal = s.closed.resumeAll := rfl

theorem State.closed_frame (s : State) :
    s.closed =
      { s.restored with
        slots := s.closed.slots, nozzleReader := s.closed.nozzleReader, pendingTag := s.closed.pendingTag
        tracking := s.closed.tracking, chan := s.closed.chan, journal := s.closed.journal, roster := s.closed.roster
        pumps := s.closed.pumps, logoffTimer := s.closed.logoffTimer, receipts := s.closed.receipts
        ports := s.closed.ports, save := s.closed.save } := by
  unfold State.closed
  rw [State.continueAll_eq, State.abandonAll_frame, State.closeAll_frame]

theorem Reports.closed (s : State) : Reports s.restored s.closed :=
  ((Reports.closeAll _ _).trans (Reports.abandonAll _)).trans (Reports.continueAll _)

theorem Reports.returnToNormal (s : State) : Reports s.restored s.returnToNormal :=
  (Reports.closed s).trans (Reports.resumeAll _)

theorem State.closed_slot (s : State) (h : Hose) :
    s.closed.slots.get h =
      if (((s.restored.closeAll s.restored.unmeteredAll).slots.get h).state.waiting) = true then Slot.fresh
      else (s.restored.closeAll s.restored.unmeteredAll).slots.get h := by
  unfold State.closed
  rw [State.continueAll_eq]
  exact State.abandonAll_slot _ h

theorem State.closed_waiting (waits : (s.slotState h).waiting = true) : s.closed.slots.get h = Slot.fresh := by
  rw [State.closed_slot]
  rcases s.restored.closeAll_slot s.restored.unmeteredAll h with idle | same
  · rw [idle]
    exact ite_self _
  · rw [same]
    exact if_pos waits

theorem State.closed_saved {v : SavedSlot} (saved : s.save.slots.get h = some v)
    (active : v.slot.state.authorised = true) : s.closed.slots.get h = Slot.fresh := by
  rw [State.closed_slot, State.closeAll_closed (s := s.restored) _ saved active]
  exact ite_self _

theorem State.closed_receipt (s : State) (c : Comp) : s.closed.receipts.get c = s.continuedReceipt c := by
  unfold State.closed
  rw [State.continueAll_receipt]
  unfold State.continuedReceipt
  rw [State.abandonAll_frame, State.closeAll_frame]
  rfl

theorem State.closed_reads (s : State) :
    s.closed.switches = s.switches ∧ s.closed.now = s.now ∧ s.closed.panelReader = s.panelReader := by
  have frame := s.closed_frame
  generalize s.closed = t at *
  rw [frame]
  exact ⟨rfl, rfl, rfl⟩

theorem State.returnToNormal_flat (s : State) :
    s.returnToNormal =
      { s with
        supply := .normal, resetCause := .supplyRestore, slots := s.closed.slots, chan := s.closed.hosesResumed.chan
        hoseCtl := s.closed.hosesResumed.hoseCtl, nozzleReader := s.closed.nozzleReader
        pendingTag := s.closed.pendingTag, tracking := s.closed.tracking, journal := s.closed.journal
        roster := s.closed.roster, logoffTimer := s.closed.logoffTimer, receipts := s.closed.receipts
        pumps := PerComp.all PumpControl.fresh
        panelReader :=
          { s.panelReader.dropTag with
            link := .qualifying, stableTimer := some (s.now + 250), qualifyLimit := some (s.now + 1000)
            retryTimer := none, pollTimer := none }
        save := { s.closed.save with register := Register.empty }
        gauge := s.returnToNormal.gauge, ports := s.returnToNormal.ports } := by
  obtain ⟨-, now, reader⟩ := s.closed_reads
  have frame := s.closed_frame
  have flat := s.closed.resumeAll_eq
  rw [← State.returnToNormal_closed, now, reader] at flat
  generalize s.returnToNormal = t at *
  generalize s.closed.hosesResumed = y at *
  generalize s.closed = x at *
  rw [flat, frame]
  rfl

/-- What a DISPENSE record carries of an interrupted transaction (R190). -/
theorem State.composeDispense_interrupted {v : SavedSlot} {m : SavedMeter} (z : State) (h : Hose) (n : Option Nat)
    (metered : v.meter = some m) :
    let d := z.composeDispense h (v.completion n)
    d.hose = h ∧ d.machine = v.slot.machine ∧ d.account = v.slot.account ∧ d.gross = m.txn.gross
      ∧ d.net = m.txn.net ∧ d.amount = m.txn.amount ∧ d.grossTotalizer = m.grossTotalizer
      ∧ d.exception = v.exception ∧ d.unmetered = n ∧ d.flags.powerInterrupted = true
      ∧ d.endCause = (if v.slot.state = .closing then v.slot.endCause else some .powerInterrupted) := by
  unfold State.composeDispense SavedSlot.completion
  rw [metered]
  exact ⟨rfl, rfl, rfl, rfl, rfl, rfl, rfl, rfl, rfl, rfl, rfl⟩

/-- Held events are latched and none is held any more (R188). -/
theorem State.restored_port (s : State) (p : Port) :
    (s.restored.ports.get p).latched = (s.ports.get p).latched ||| (s.ports.get p).held
      ∧ (s.restored.ports.get p).held = 0 := by
  cases p <;> exact ⟨rfl, rfl⟩

theorem State.returnToNormal_latches (s : State) (p : Port) :
    (s.returnToNormal.ports.get p).held = 0
      ∧ (s.returnToNormal.ports.get p).latched ||| (s.ports.get p).latched ||| (s.ports.get p).held
        = (s.returnToNormal.ports.get p).latched := by
  have reports := Reports.returnToNormal s
  obtain ⟨latched, held⟩ := s.restored_port p
  obtain ⟨more, kept⟩ := reports.flags p
  obtain ⟨-, -, still⟩ := reports.ports rfl p
  refine ⟨still.trans held, ?_⟩
  rw [kept, latched, BitVec.or_assoc]
  ext i bound
  simp only [BitVec.getElem_or]
  generalize ((s.ports.get p).latched[i] || (s.ports.get p).held[i]) = was
  cases was <;> simp

theorem State.returnToNormal_saveEmptied (s : State) : s.returnToNormal.saveEmptied :=
  ⟨fun h => Closes.resumeAll.slots h (Closes.continueAll.slots h (State.abandonAll_slots h)),
    fun c => Closes.resumeAll.receipts c (State.continueAll_receipts c)⟩

/-- What the obligation says of the record of a saved transaction. -/
theorem Recorded.interrupted {v : SavedSlot} {m : SavedMeter} {n : Option Nat} (f : Recorded h v n s t)
    (metered : v.meter = some m) :
    ∃ rec ∈ t.journal.records.drop s.journal.records.length, ∃ d, rec.body = .dispense d ∧ d.hose = h
      ∧ d.machine = v.slot.machine ∧ d.account = v.slot.account ∧ d.gross = m.txn.gross
      ∧ d.net = m.txn.net ∧ d.amount = m.txn.amount ∧ d.grossTotalizer = m.grossTotalizer
      ∧ d.exception = v.exception ∧ d.unmetered = n ∧ d.flags.powerInterrupted = true
      ∧ d.endCause = (if v.slot.state = .closing then v.slot.endCause else some .powerInterrupted) := by
  obtain ⟨rec, joined, z, body⟩ := f
  exact ⟨rec, joined, _, body, z.composeDispense_interrupted h n metered⟩

/-- The record of a saved transaction after the ride-through. -/
theorem State.returnToNormal_records {v : SavedSlot} {mark : Bool} (saved : s.save.slots.get h = some v)
    (active : v.slot.state.authorised = true) (holds : s.journal.register.hoses.get h = some mark) :
    Recorded h v (some (s.chan.get h).unmetered) s s.returnToNormal := by
  have record : Recorded h v _ s.restored (s.restored.closeAll s.restored.unmeteredAll) :=
    State.closeAll_records s.restored.unmeteredAll saved active holds
  rw [State.unmeteredAll_get] at record
  have after : Reports (s.restored.closeAll s.restored.unmeteredAll) s.returnToNormal :=
    ((Reports.abandonAll _).trans (Reports.continueAll _)).trans (Reports.resumeAll _)
  exact record.later (Reports.closeAll _ _) after

/-! ### The entry to SAVED (R187) -/

theorem State.freezeHose_eq (s : State) (h : Hose) :
    s.freezeHose h =
      { s with
        hoseCtl := s.hoseCtl.set h
          { s.hoseCtl.get h with flowStop := none, noFlow := none, pause := none, settle := none }
        slots := s.slots.set h { s.slots.get h with identTimer := none, overrideTimer := none }
        tracking := s.tracking.set h { s.tracking.get h with running := false, restoreWindow := none }
        pendingTag := s.pendingTag.set h false
        nozzleReader := s.nozzleReader.set h (s.nozzleReader.get h).powerOff
        chan := s.chan.set h { s.chan.get h with unmetered := 0 } } := rfl

theorem sameOtherHoses.freezeHose (s : State) (h : Hose) : sameOtherHoses h s (s.freezeHose h) := by
  intro k other
  rw [State.freezeHose_eq]
  simp [other]

/-- The hoses as the entry to SAVED stops them. -/
def State.hosesFrozen (s : State) : State := ((s.freezeHose .h1).freezeHose .h2).freezeHose .h3

theorem State.hosesFrozen_frame (s : State) :
    s.hosesFrozen =
      { s with
        hoseCtl := s.hosesFrozen.hoseCtl, slots := s.hosesFrozen.slots, tracking := s.hosesFrozen.tracking
        pendingTag := s.hosesFrozen.pendingTag, nozzleReader := s.hosesFrozen.nozzleReader
        chan := s.hosesFrozen.chan } := by
  unfold State.hosesFrozen
  rw [State.freezeHose_eq (State.freezeHose _ .h2) .h3, State.freezeHose_eq (State.freezeHose _ .h1) .h2,
    State.freezeHose_eq s .h1]

/-- Each hose is stopped (R22, R49, R69, R115). -/
theorem State.hosesFrozen_hose (s : State) (h : Hose) : sameHose h (s.freezeHose h) s.hosesFrozen := by
  obtain ⟨u, -, ⟨slots, chan, ctl, tracking, reader, tag⟩, after⟩ := each_hose_turn (s := s)
    (f := fun t k => t.freezeHose k) (P := fun _ => True) sameOtherHoses.freezeHose trivial (fun _ _ _ => trivial) h
  refine sameHose.trans ?_ after
  rw [State.freezeHose_eq, State.freezeHose_eq]
  simp [sameHose, slots, chan, ctl, tracking, reader]

theorem State.stilled_eq (s : State) :
    s.stilled =
      { s.hosesFrozen with
        pumps := (s.pumps.set .a { s.pumps.a with runOn := none }).set .b { s.pumps.b with runOn := none }
        receipts := (s.receipts.set .a { s.receipts.a with qualification := none, limit := none }).set .b
          { s.receipts.b with qualification := none, limit := none }
        panelReader := s.panelReader.panelFrozen } := by
  have frame := s.hosesFrozen_frame
  have steps : s.stilled = ((s.hosesFrozen.freezeComp .a).freezeComp .b).modReader .pr fun r => r.panelFrozen := rfl
  rw [steps]
  generalize s.hosesFrozen = t at *
  rw [frame]
  rfl

/-- The entry to SAVED, flattened. -/
theorem State.enterSaved_flat (s : State) :
    s.enterSaved =
      { s with
        hoseCtl := s.hosesFrozen.hoseCtl, slots := s.hosesFrozen.slots, tracking := s.hosesFrozen.tracking
        pendingTag := s.hosesFrozen.pendingTag, nozzleReader := s.hosesFrozen.nozzleReader
        chan := s.hosesFrozen.chan
        pumps := (s.pumps.set .a { s.pumps.a with runOn := none }).set .b { s.pumps.b with runOn := none }
        receipts := (s.receipts.set .a { s.receipts.a with qualification := none, limit := none }).set .b
          { s.receipts.b with qualification := none, limit := none }
        panelReader := s.panelReader.panelFrozen, supply := .saved, supervisor := none
        save := s.stilled.saveArea } := by
  have frame := s.hosesFrozen_frame
  rw [State.enterSaved_eq]
  generalize s.stilled.saveArea = area
  rw [State.stilled_eq]
  generalize s.hosesFrozen = t at *
  rw [frame]

/-- The Save Area reads nothing that the last step of the entry writes. -/
theorem State.enterSaved_saveArea (s : State) : s.enterSaved.save = s.enterSaved.saveArea := by
  rw [State.enterSaved_eq]
  generalize s.stilled = t
  rfl

/-- While the supply is SAVED every drive is closed (R187). -/
theorem State.outputs_saved (saved : s.supply = .saved) :
    s.outputs.main = PerHose.all false ∧ s.outputs.slow = PerHose.all false ∧ s.outputs.pump = PerComp.all false
      ∧ s.outputs.inlet = PerComp.all false := by
  have forced (c : Comp) : s.drivesForced c = true := by simp [State.drivesForced, State.isNormal, saved]
  have inlets (c : Comp) : s.inletForced c = true := by simp [State.inletForced, State.isNormal, saved]
  simp [State.outputs, State.mainOpen, State.slowOpen, State.pumpRuns, State.inletOpen, forced, inlets, PerHose.all,
    PerComp.all]

/-! ### The power-on (R192) -/

/-- Every slot IDLE with its reader, tag and tracking off, every channel unbound, no pump in demand. -/
structure Cold (s : State) : Prop where
  slots : s.slots = PerHose.all Slot.fresh
  readers : s.nozzleReader = PerHose.all ReaderState.off
  tags : s.pendingTag = PerHose.all false
  tracking : s.tracking = PerHose.all Tracking.off
  pumps : s.pumps = PerComp.all PumpControl.fresh
  bound : ∀ h, (s.chan.get h).bound = false

theorem Cold.slot_fresh (cold : Cold s) (h : Hose) : s.slots.get h = Slot.fresh := by rw [cold.slots, PerHose.get_all]

theorem Cold.recountDemand (cold : Cold s) (c : Comp) : s.recountDemand c = s := by
  have none : s.demandOf c = 0 := by
    simp only [State.demandOf, State.slotState, cold.slot_fresh]
    cases c <;> rfl
  have same : s.pumps.set c { demand := 0, runOn := (s.pumps.get c).runOn } = s.pumps := by
    rw [cold.pumps]
    cases c <;> rfl
  have idle : (s.pumps.get c).demand = 0 := by
    rw [cold.pumps]
    cases c <;> rfl
  unfold State.recountDemand State.modPump
  simp only [none, idle, Nat.lt_irrefl, false_and, if_false, same]

theorem Cold.setSlotState (cold : Cold s) (h : Hose) : s.setSlotState h .idle = s.raise (.hoseState h) := by
  have idle : s.slotState h = .idle := by rw [State.slotState, cold.slot_fresh]; rfl
  have kept : s.slots.set h { s.slots.get h with state := .idle } = s.slots := by
    rw [cold.slots]
    cases h <;> rfl
  have slot : (s.modSlot h fun x => { x with state := .idle }) = s :=
    congrArg (fun slots => ({ s with slots := slots } : State)) kept
  unfold State.setSlotState
  rw [slot, cold.recountDemand, idle]
  rfl

/-- What a return to IDLE empties at its hose. -/
def State.emptied (s : State) (h : Hose) : State :=
  { s with
    slots := s.slots.set h { Slot.fresh with state := (s.slots.get h).state }
    nozzleReader := s.nozzleReader.set h (s.nozzleReader.get h).powerOff, pendingTag := s.pendingTag.set h false
    tracking := s.tracking.set h Tracking.off, chan := s.chan.set h (s.chan.get h).released }

theorem State.toIdle_emptied (s : State) (h : Hose) : s.toIdle h = (s.emptied h).setSlotState h .idle := rfl

/-- An IDLE slot returns to IDLE: nothing but an event follows. -/
theorem Cold.toIdle (cold : Cold s) (h : Hose) : s.toIdle h = s.raise (.hoseState h) := by
  have slot : s.slots.set h { Slot.fresh with state := (s.slots.get h).state } = s.slots := by
    rw [cold.slot_fresh, cold.slots]
    cases h <;> rfl
  have reader : s.nozzleReader.set h (s.nozzleReader.get h).powerOff = s.nozzleReader := by
    rw [cold.readers]
    cases h <;> rfl
  have tag : s.pendingTag.set h false = s.pendingTag := by rw [cold.tags]; cases h <;> rfl
  have track : s.tracking.set h Tracking.off = s.tracking := by rw [cold.tracking]; cases h <;> rfl
  have chan : s.chan.set h (s.chan.get h).released = s.chan := by
    have same : (s.chan.get h).released = s.chan.get h := if_neg (by simp [cold.bound])
    rw [same, PerHose.set_get]
  have before : s.emptied h = s := by
    unfold State.emptied
    rw [slot, reader, tag, track, chan]
  rw [State.toIdle_emptied, before, cold.setSlotState]

theorem Cold.congr (cold : Cold s) (slots : t.slots = s.slots) (readers : t.nozzleReader = s.nozzleReader)
    (tags : t.pendingTag = s.pendingTag) (tracking : t.tracking = s.tracking) (pumps : t.pumps = s.pumps)
    (chan : t.chan = s.chan) : Cold t :=
  ⟨slots.trans cold.slots, readers.trans cold.readers, tags.trans cold.tags, tracking.trans cold.tracking,
    pumps.trans cold.pumps, fun h => by rw [chan]; exact cold.bound h⟩

/-- A completion at a cold start writes the record, the accounts and the usage. -/
theorem Cold.complete (cold : Cold s) (h : Hose) (x : Completion) :
    s.complete h x =
      { s with
        journal := (s.complete h x).journal, ports := (s.complete h x).ports
        roster := { s.roster with
          accounts := (s.complete h x).roster.accounts, usage := (s.complete h x).roster.usage } } := by
  have frame := s.completing_frame h x
  have entry : (s.slots.get h).entry = none := by rw [cold.slot_fresh]; rfl
  have cold' : Cold (s.completing h x) := by
    apply cold.congr <;> rw [frame]
  have steps := (s.complete_steps h x).trans (cold'.toIdle h)
  rw [entry, Roster.completed_frame, Roster.completed_cache] at frame
  rw [steps]
  generalize s.completing h x = t at *
  rw [frame]
  rfl

theorem Cold.closeSaved (cold : Cold s) (h : Hose) (n : Option Nat) :
    s.closeSaved h n =
      { s with
        journal := (s.closeSaved h n).journal, ports := (s.closeSaved h n).ports
        roster := { s.roster with
          accounts := (s.closeSaved h n).roster.accounts, usage := (s.closeSaved h n).roster.usage }
        save := { s.save with slots := (s.closeSaved h n).save.slots } } := by
  rcases s.closeSaved_cases h n with same | ⟨x, acts⟩
  · rw [same]
  · rw [acts, State.forgetSaved, cold.complete]

theorem Cold.closeAll (cold : Cold s) (n : PerHose (Option Nat)) :
    s.closeAll n =
      { s with
        journal := (s.closeAll n).journal, ports := (s.closeAll n).ports
        roster := { s.roster with
          accounts := (s.closeAll n).roster.accounts, usage := (s.closeAll n).roster.usage }
        save := { s.save with slots := (s.closeAll n).save.slots } } := by
  have stays {t : State} (was : Cold t) (h : Hose) (m : Option Nat) : Cold (t.closeSaved h m) := by
    apply was.congr <;> rw [was.closeSaved]
  have first := cold.closeSaved .h1 n.h1
  have second := (stays cold .h1 n.h1).closeSaved .h2 n.h2
  have third := (stays (stays cold .h1 n.h1) .h2 n.h2).closeSaved .h3 n.h3
  unfold State.closeAll
  rw [third, second, first]

/-- The state of a power-on before the Journal Unit starts. -/
def State.coldClosed (s : State) (lines : PerHose LineLevels) (switches : Switches) : State :=
  ((s.poweredOn lines switches).closeAll (PerHose.all none)).continueAll.slotsForgotten

theorem State.poweredOn_cold (s : State) (lines : PerHose LineLevels) (switches : Switches) :
    Cold (s.poweredOn lines switches) :=
  ⟨rfl, rfl, rfl, rfl, rfl, fun h => by cases h <;> rfl⟩

theorem State.coldClosed_frame (s : State) (lines : PerHose LineLevels) (switches : Switches) :
    s.coldClosed lines switches =
      { s.poweredOn lines switches with
        journal := (s.coldClosed lines switches).journal, ports := (s.coldClosed lines switches).ports
        roster := { (s.poweredOn lines switches).roster with
          accounts := (s.coldClosed lines switches).roster.accounts
          usage := (s.coldClosed lines switches).roster.usage }
        receipts := (s.coldClosed lines switches).receipts
        save := (s.coldClosed lines switches).save } := by
  have cold := (s.poweredOn_cold lines switches).closeAll (PerHose.all none)
  unfold State.coldClosed State.slotsForgotten
  generalize s.poweredOn lines switches = u at *
  rw [State.continueAll_eq]
  generalize u.closeAll (PerHose.all none) = v at *
  rw [cold]

/-- The starting values of a power-on, with the holders of the Save Area. -/
theorem State.poweredOn_flat (s : State) (lines : PerHose LineLevels) (switches : Switches) :
    s.poweredOn lines switches =
      { s with
        now := 0, clock := Clock.fresh, switches := switches, supply := .normal, resetCause := .powerOn
        chan :=
          ⟨Channel.fresh ⟨lines.h1.p1, lines.h1.p2⟩ s.save.totals.h1 0,
           Channel.fresh ⟨lines.h2.p1, lines.h2.p2⟩ s.save.totals.h2 0,
           Channel.fresh ⟨lines.h3.p1, lines.h3.p2⟩ s.save.totals.h3 0⟩
        hoseCtl :=
          ⟨HoseControl.fresh switches.nozzleIn.h1, HoseControl.fresh switches.nozzleIn.h2,
           HoseControl.fresh switches.nozzleIn.h3⟩
        pumps := PerComp.all PumpControl.fresh, nozzleReader := PerHose.all ReaderState.off
        panelReader := ReaderState.panelStart 0, tracking := PerHose.all Tracking.off
        pendingTag := PerHose.all false, operator := none, logoffTimer := none, supervisor := none
        roster := s.roster.restarted, slots := PerHose.all Slot.fresh
        stock := ⟨startStock s.save.stock.a s.cal.dead.a, startStock s.save.stock.b s.cal.dead.b⟩
        gauge := PerComp.all Gauge.fresh, tilt := Tilt.fresh, receipts := PerComp.all Receipt.fresh
        cal := { s.cal with staged := none }, journal := { s.journal with register := s.save.holders }
        ports := (s.poweredOn lines switches).ports } := rfl

theorem SaveArea.holders_hose {v : SavedSlot} {a : SaveArea} (saved : a.slots.get h = some v)
    (active : v.slot.state.authorised = true) : a.holders.hoses.get h = a.register.hoses.get h := by
  unfold SaveArea.holders
  cases h <;> simp only [PerHose.get] at saved ⊢ <;> rw [saved] <;> exact if_pos active

theorem State.checkRollover_invalid (invalid : s.clock.valid = false) : s.checkRollover = s := by
  unfold State.checkRollover
  simp [invalid]

theorem State.powerUp_begun (s : State) (lines : PerHose LineLevels) (switches : Switches) :
    s.powerUp lines switches = (s.coldClosed lines switches).startJournal := by
  have invalid : (s.coldClosed lines switches).startJournal.clock.valid = false := by
    rw [State.startJournal_eq, State.coldClosed_frame, State.poweredOn_flat]
    rfl
  exact State.checkRollover_invalid invalid

theorem State.powerUp_frame (s : State) (lines : PerHose LineLevels) (switches : Switches) :
    s.powerUp lines switches =
      { s.poweredOn lines switches with
        journal := (s.powerUp lines switches).journal, ports := (s.powerUp lines switches).ports
        roster := { (s.poweredOn lines switches).roster with
          accounts := (s.powerUp lines switches).roster.accounts
          usage := (s.powerUp lines switches).roster.usage }
        receipts := (s.coldClosed lines switches).receipts
        save := (s.powerUp lines switches).save } := by
  have frame := s.coldClosed_frame lines switches
  rw [State.powerUp_begun, State.startJournal_eq]
  generalize s.coldClosed lines switches = t at *
  rw [frame]

theorem State.coldClosed_receipt (s : State) (lines : PerHose LineLevels) (switches : Switches) (c : Comp) :
    (s.coldClosed lines switches).receipts.get c =
      match s.save.receipts.get c with
      | none => Receipt.fresh
      | some r => r.continued Receipt.fresh 0 0 false := by
  refine (State.continueAll_receipt _ c).trans ?_
  unfold State.continuedReceipt
  rw [(s.poweredOn_cold lines switches).closeAll, State.poweredOn_flat]
  simp only [PerComp.get_all]
  cases s.save.receipts.get c <;> rfl

theorem Reports.coldClosed (s : State) (lines : PerHose LineLevels) (switches : Switches) :
    Reports ((s.poweredOn lines switches).closeAll (PerHose.all none)) (s.powerUp lines switches) := by
  have forgets (t : State) : Reports t t.slotsForgotten := Reports.of_same rfl rfl rfl
  rw [State.powerUp_begun]
  exact ((Reports.continueAll _).trans (forgets _)).trans (Reports.startJournal _)

theorem Reports.powerUp (s : State) (lines : PerHose LineLevels) (switches : Switches) :
    Reports (s.poweredOn lines switches) (s.powerUp lines switches) :=
  (Reports.closeAll _ _).trans (Reports.coldClosed s lines switches)

/-- The record of a saved transaction after a power-on. -/
theorem State.powerUp_records {v : SavedSlot} {mark : Bool} (lines : PerHose LineLevels) (switches : Switches)
    (saved : s.save.slots.get h = some v) (active : v.slot.state.authorised = true)
    (holds : s.save.register.hoses.get h = some mark) : Recorded h v none s (s.powerUp lines switches) := by
  have save : (s.poweredOn lines switches).save = s.save := rfl
  have register : (s.poweredOn lines switches).journal.register = s.save.holders := rfl
  have record := State.closeAll_records (s := s.poweredOn lines switches) (h := h) (PerHose.all none)
    (by rw [save]; exact saved) active (by rw [register, SaveArea.holders_hose saved active]; exact holds)
  rw [PerHose.get_all] at record
  exact record.later (Reports.closeAll _ _) (Reports.coldClosed s lines switches)

theorem State.powerUp_saveEmptied (s : State) (lines : PerHose LineLevels) (switches : Switches) :
    (s.powerUp lines switches).saveEmptied :=
  ⟨fun h => Closes.begun.slots h (PerHose.get_all none h),
    fun c => Closes.begun.receipts c (Closes.slotsForgotten.receipts c (State.continueAll_receipts c))⟩

theorem State.powerUp_ports (s : State) (lines : PerHose LineLevels) (switches : Switches) (p : Port) :
    ((s.powerUp lines switches).ports.get p).mask = 0 ∧ ((s.powerUp lines switches).ports.get p).buffer = none
      ∧ ((s.powerUp lines switches).ports.get p).hasFlag p .restarted = true := by
  have reports := Reports.powerUp s lines switches
  obtain ⟨flag, mask, buffer, -⟩ := (s.levelled lines switches).started_ports .powerOn s.save.stock s.save.totals p
  obtain ⟨mask', buffer', -⟩ := reports.ports rfl p
  exact ⟨mask'.trans mask, buffer'.trans buffer, reports.flags.hasFlag flag⟩

/-- Settles O60. -/
theorem calSwitchAndSupply : Obligations.CalSwitchAndSupply := by
  intro s interrupted
  refine ⟨fun off => ?_, fun on => ?_, fun normal => ?_, fun saved => ?_, fun lines switches => ?_⟩
  · have run : exec .calEnableAssert s = ((s.setCalEnable true).raise .calibration).finish :=
      congrArg State.finish (if_neg (by simp [off]))
    exact ⟨_, run.trans (State.finish_eq _), rfl⟩
  · have run : exec .calEnableRelease s =
        (((s.setCalEnable false).modCal fun k => { k with staged := none }).raise .calibration).finish :=
      congrArg State.finish (if_pos on)
    exact ⟨_, run.trans (State.finish_eq _), rfl⟩
  · have run : exec .entryToSaved s = s.enterSaved.finish :=
      congrArg State.finish (if_pos (by simp [State.isNormal, normal]))
    have area := s.enterSaved_saveArea
    have flat := s.enterSaved_flat
    have hoses (h : Hose) := s.hosesFrozen_hose h
    generalize s.enterSaved = t at *
    generalize s.hosesFrozen = y at *
    obtain ⟨main, slow, pump, inlet⟩ := State.outputs_saved (s := t) (by rw [flat])
    refine ⟨_, run.trans (State.finish_eq _), ?_, area, ?_, fun h => ?_, fun c => ?_, ?_, ?_, main, slow, pump, inlet, ?_⟩
    · rw [flat]
    · rw [flat]
    · obtain ⟨slots, chan, ctl, tracking, reader, tag⟩ := hoses h
      rw [flat]
      rw [State.freezeHose_eq] at slots chan ctl tracking reader tag
      simp only [PerHose.get_set_same] at slots chan ctl tracking reader tag
      exact ⟨slots, ctl, chan, by rw [tracking], tag, by rw [reader]; rfl⟩
    · rw [flat]
      cases c <;> exact ⟨rfl, rfl⟩
    · rw [flat]; rfl
    · rw [flat]; rfl
    · rw [flat]
  · have run : exec .rideThrough s = s.returnToNormal.finish :=
      congrArg State.finish (if_neg (by simp [State.isNormal, saved]))
    have latches := s.returnToNormal_latches
    have emptied := s.returnToNormal_saveEmptied
    have records (h : Hose) (v : SavedSlot) (kept : s.save.slots.get h = some v)
        (active : v.slot.state.authorised = true) (k : Bool) (holds : s.journal.register.hoses.get h = some k)
        (m : SavedMeter) (metered : v.meter = some m) :=
      (State.returnToNormal_records kept active holds).interrupted metered
    have waiting (h : Hose) := State.closed_waiting (s := s) (h := h)
    have idle (h : Hose) (v : SavedSlot) := State.closed_saved (s := s) (h := h) (v := v)
    have hoses (h : Hose) := s.closed.hosesResumed_hose h
    have receipts := s.closed_receipt
    have flat := s.returnToNormal_flat
    rw [s.closed_reads.1] at hoses
    generalize s.returnToNormal = t at *
    generalize s.closed.hosesResumed = y at *
    generalize s.closed = x at *
    have slots : t.slots = x.slots := by rw [flat]
    refine ⟨_, run.trans (State.finish_eq _), ?_, ?_, emptied, latches, fun h waits => ?_,
      fun h v kept active => ⟨?_, fun k holds m metered => ?_⟩, fun h => ⟨?_, ?_⟩, fun c => ?_, fun c => ?_, ?_, ?_, ?_, ?_,
      ?_, ?_, ?_, ?_, ?_, ?_⟩
    · rw [flat]
    · rw [flat]
    · exact (congrArg (fun z => z.get h) slots).trans (waiting h waits)
    · exact (congrArg (fun z => z.get h) slots).trans (idle h v kept active)
    · exact records h v kept active k holds m metered
    · rw [flat]; exact (hoses h).1
    · rw [flat]; exact (hoses h).2
    · rw [flat]; exact PerComp.get_all _ c
    · rw [flat]; exact receipts c
    all_goals rw [flat]
  · have run : exec (.powerOn lines switches) s = (s.powerUp lines switches).finish := rfl
    have emptied := s.powerUp_saveEmptied lines switches
    have ports := s.powerUp_ports lines switches
    have receipts := s.coldClosed_receipt lines switches
    have grows := (Reports.powerUp s lines switches).grows
    have records (h : Hose) (v : SavedSlot) (kept : s.save.slots.get h = some v)
        (active : v.slot.state.authorised = true) (k : Bool) (holds : s.save.register.hoses.get h = some k)
        (m : SavedMeter) (metered : v.meter = some m) :=
      (State.powerUp_records lines switches kept active holds).interrupted metered
    have flat := s.powerUp_frame lines switches
    rw [State.poweredOn_flat] at flat grows
    generalize s.powerUp lines switches = t at *
    generalize s.coldClosed lines switches = y at *
    refine ⟨_, run.trans (State.finish_eq _), ?_, ?_, ?_, ?_, ?_, ?_, ?_, emptied, fun h => ?_, ?_, ?_, ?_, fun c => ⟨?_, ?_⟩,
      fun c => ⟨?_, ?_, ?_, ?_⟩, fun w => ?_, ?_, ?_, ?_, ?_, ?_, ?_, grows, records, ports⟩
    · rw [flat]
    · rw [flat]
    · rw [flat]
    · rw [flat]; rfl
    · rw [flat]
    · rw [flat]
    · rw [flat]
    · rw [flat]
      cases h <;> exact ⟨rfl, rfl, rfl, rfl, rfl, rfl, rfl, rfl, rfl, rfl, rfl, rfl, rfl, rfl, rfl, rfl, rfl⟩
    · rw [flat]
    · rw [flat]
    · rw [flat]
    · rw [flat]; exact PerComp.get_all _ c
    · rw [flat]; exact receipts c
    · rw [flat]; cases c <;> rfl
    · rw [flat]; cases c <;> exact decide_eq_true_iff
    · rw [flat]; exact PerComp.get_all _ c
    · rw [flat]; cases c <;> rfl
    · rw [flat]; exact Roster.entryAt_restarted s.roster w
    all_goals rw [flat]
    all_goals rfl

end Sys2Proof.Machine
end
